-- ==== Sys2Proof/Word.lean ====
section
/-! DEFINITION. The words of TionFrameCodec: bytes and 20-byte frames (00_scope.md R7, R15; 20_memory.md R50, R51). -/

namespace Sys2Proof

/-- `u8`, bit 0 least significant (00_scope.md R15). -/
abbrev Byte := BitVec 8

/-- A frame of `FRAME_LEN` = 20 bytes, byte 0 the first delivered (00_scope.md R7, 20_memory.md R51). -/
abbrev Frame := Vector Byte 20

end Sys2Proof
end

