-- ==== Sys2Proof/Config.lean ====
section
/-! DEFINITION. The source's constants (00_scope.md R7, R8, R10, R14) and the configuration record `Cfg` (R9, R11 to R14, R45). -/

namespace Sys2Proof

/-- `FRAME_LEN` (00_scope.md R7). -/
def frameLen : Nat := 20

/-- `PAYLOAD_OFF` (00_scope.md R7). -/
def payloadOff : Nat := 2

/-- `HDR_MAGIC` (00_scope.md R8). -/
def hdrMagic : Byte := 0x3D

/-- `TRL_MAGIC` (00_scope.md R8). -/
def trlMagic : Byte := 0x5A

/-- `OPC_PAIR` (00_scope.md R8). -/
def opcPair : Byte := 0x05

/-- `OPC_REQUEST_STATE` (00_scope.md R8). -/
def opcRequestState : Byte := 0x01

/-- `OPC_SET_STATE` (00_scope.md R8). -/
def opcSetState : Byte := 0x02

/-- `PAIR_FLAG_OFF` (00_scope.md R8). -/
def pairFlagOff : Fin 20 := 2

/-- `PAIR_FLAG_VAL` (00_scope.md R8). -/
def pairFlagVal : Byte := 1

/-- `FILTER_MAX` (00_scope.md R10). -/
def filterMax : Nat := 360

/-- `FILTER_FALLBACK` (00_scope.md R10). -/
def filterFallback : Nat := 1

/-- `FILTER_DEFAULT` (00_scope.md R10). -/
def filterDefault : Nat := 360

/-- `ERROR_CODE_OFF`, a payload index (00_scope.md R14). -/
def errorCodeOff : Fin 17 := 9

/-- `P_PRESETS_BYTE`, OPEN: "no value is assumed" (00_scope.md R14, 93_implementation_defined.md I13); log entry 7. -/
opaque Config.pPresetsByte : Fin 17

/-- `P_PRESETS_BIT`, OPEN (00_scope.md R14, 93_implementation_defined.md I13); log entry 7. -/
opaque Config.pPresetsBit : Fin 8

/-- `P_PRODUCTIVITY_OFF`, OPEN (00_scope.md R14, 93_implementation_defined.md I13); log entry 7. -/
opaque Config.pProductivityOff : Fin 17

/-- The configuration record (00_scope.md R9, R11 to R14): the same for a whole run (10_state.md R45). -/
structure Cfg where
  /-- `SS_OFF_FAN`, a frame byte index (R9). -/
  ssOffFan : Fin 20
  /-- `SS_OFF_HTEMP` (R9). -/
  ssOffHtemp : Fin 20
  /-- `SS_OFF_MODE` (R9). -/
  ssOffMode : Fin 20
  /-- `SS_OFF_FLAGS` (R9). -/
  ssOffFlags : Fin 20
  /-- `SS_OFF_CONST` (R9). -/
  ssOffConst : Fin 20
  /-- `SS_CONST_VAL` (R9); no meaning is assigned to it (93_implementation_defined.md I1). -/
  ssConstVal : Byte
  /-- `TIMEOUT_MS` (R11). -/
  timeoutMs : Nat
  /-- `TICK_MS` (R11). -/
  tickMs : Nat
  /-- `FAN_SPEED_MIN` (R12). -/
  fanSpeedMin : Byte
  /-- `RESP_CODE_CHECK` (R13). -/
  respCodeCheck : Option Byte
  /-- `TIME_HOUR_OFF`, a payload index (R14). -/
  timeHourOff : Fin 17
  /-- `TIME_MIN_OFF`, a payload index (R14). -/
  timeMinOff : Fin 17
  /-- `P_PRESETS_BYTE`, a payload index, OPEN (R14); `none` where no value is given. -/
  pPresetsByte : Option (Fin 17)
  /-- `P_PRESETS_BIT`, OPEN (R14); `none` where no value is given. -/
  pPresetsBit : Option (Fin 8)
  /-- `P_PRODUCTIVITY_OFF`, a payload index, OPEN (R14); `none` where no value is given. -/
  pProductivityOff : Option (Fin 17)
  deriving DecidableEq, Repr

/-- `TIMEOUT_TICKS` = `TIMEOUT_MS / TICK_MS` (00_scope.md R11). Where `TICK_MS` does not divide `TIMEOUT_MS` the spec states no rounding, and the quotient is rounded down (DESIGN CHOICE, log entry 16, unsafe). -/
def Cfg.timeoutTicks (c : Cfg) : Nat := c.timeoutMs / c.tickMs

/-- The payload index of presetsOn's byte, a free one where the configuration gives none (log entry 7). -/
def Cfg.presetsByte (c : Cfg) : Fin 17 := c.pPresetsByte.getD Config.pPresetsByte

/-- presetsOn's bit, a free one where the configuration gives none (log entry 7). -/
def Cfg.presetsBit (c : Cfg) : Fin 8 := c.pPresetsBit.getD Config.pPresetsBit

/-- The payload index of productivity, a free one where the configuration gives none (log entry 7). -/
def Cfg.productivityOff (c : Cfg) : Fin 17 := c.pProductivityOff.getD Config.pProductivityOff

/-- What R9 and R11 ask of a configuration: the five SetState offsets distinct and in 3..18, `TIMEOUT_TICKS` in 1..16383. -/
abbrev Cfg.wf (c : Cfg) : Prop :=
  ([c.ssOffFan, c.ssOffHtemp, c.ssOffMode, c.ssOffFlags, c.ssOffConst].Pairwise (· ≠ ·)) ∧
  (∀ o ∈ [c.ssOffFan, c.ssOffHtemp, c.ssOffMode, c.ssOffFlags, c.ssOffConst], 3 ≤ o.val ∧ o.val ≤ 18) ∧
  1 ≤ c.timeoutTicks ∧ c.timeoutTicks ≤ 16383

/-- Are the SetState bytes where 30_encoding.md R81 lays them out, at the default offsets and constant of 00_scope.md R9? -/
abbrev Cfg.defaultLayout (c : Cfg) : Prop :=
  c.ssOffFan = 3 ∧ c.ssOffHtemp = 4 ∧ c.ssOffMode = 5 ∧ c.ssOffFlags = 6 ∧ c.ssOffConst = 7 ∧ c.ssConstVal = 0x01#8

/-- The default configuration of 00_scope.md R7 to R14, the one State.reset holds (DESIGN CHOICE, log entry 6). -/
def Config.cfg : Cfg where
  ssOffFan := 3
  ssOffHtemp := 4
  ssOffMode := 5
  ssOffFlags := 6
  ssOffConst := 7
  ssConstVal := 0x01
  timeoutMs := 10000
  tickMs := 1
  fanSpeedMin := 1
  respCodeCheck := none
  timeHourOff := 7
  timeMinOff := 8
  pPresetsByte := none
  pPresetsBit := none
  pProductivityOff := none

end Sys2Proof
end

