-- ==== Sys2Proof/Syntax.lean ====
section
/-! DEFINITION. The events of the block as syntax: one constructor per row of spec/opcode_table.json, what the ports carry, and the assembler forms of 30_encoding.md R86, R87. -/

namespace Sys2Proof

/-- One constructor per row of spec/opcode_table.json. An operand is a field the row's event word, data channel or frame carries. -/
inductive Instr where
  /-- NOP, 43_watchdog.md R178. -/
  | nop
  /-- RX with the bytes of the data channel, of any length (41_telemetry_decode.md R120, 30_encoding.md R72). -/
  | rx (data : List Byte)
  /-- ENC_REQUEST_STATE, 40_command_encode.md R102. -/
  | encRequestState
  /-- ENC_SET_STATE, 40_command_encode.md R103. -/
  | encSetState
  /-- ENC_PAIR, 40_command_encode.md R101. -/
  | encPair
  /-- ENC_UNSUPPORTED with its opcode, none of 0x01, 0x02, 0x05 (40_command_encode.md R105). -/
  | encUnsupported (op : Byte)
  /-- WR_FAN, 42_state_write.md R161. -/
  | wrFan (val : Byte)
  /-- WR_HTEMP, 42_state_write.md R162. -/
  | wrHtemp (val : Byte)
  /-- WR_MODE, 42_state_write.md R163. -/
  | wrMode (val : Byte)
  /-- WR_HEATER, 42_state_write.md R164. -/
  | wrHeater (val : Byte)
  /-- WR_POWER, 42_state_write.md R165. -/
  | wrPower (val : Byte)
  /-- WR_SOUND, 42_state_write.md R166. -/
  | wrSound (val : Byte)
  /-- WR_RESERVED with its field select, 6 or 7 (42_state_write.md R167). -/
  | wrReserved (fsel : BitVec 3) (val : Byte)
  /-- TICK, 43_watchdog.md R172 to R174. -/
  | tick
  /-- TDN, 43_watchdog.md R177. -/
  | tdn
  /-- RESERVED_EVENT with its kind, 6 or 7 (43_watchdog.md R179). -/
  | reservedEvent (kind : BitVec 3)
  /-- RST, the reset pin (70_reset_and_hazards.md R210, 30_encoding.md R73). -/
  | rst
  /-- FRAME_PAIR, the produced Pair frame (30_encoding.md R81); log entry 4. -/
  | framePair
  /-- FRAME_REQUEST_STATE, the produced RequestState frame (30_encoding.md R81); log entry 4. -/
  | frameRequestState
  /-- FRAME_SET_STATE, a produced SetState frame with its free bytes and bits (30_encoding.md R81, R84); log entry 4. -/
  | frameSetState (fan htemp mode : Byte) (heater power sound : Bool)
  /-- FRAME_TELEMETRY, a received frame of length 20 with any content (30_encoding.md R82); log entry 4. -/
  | frameTelemetry (frame : Frame)
  deriving DecidableEq, Repr

/-- What the ports carry in one step: `rst`, the event word and the RX data channel (30_encoding.md R70 to R73). -/
structure Input where
  rst : Bool
  ev : BitVec 32
  rx : List Byte
  deriving DecidableEq, Repr

/-- What a row of the table is encoded as: a step's ports (formats EV32 and PIN), the bytes of a produced frame (CMD20) or the bytes of a received one (TLM20). -/
inductive Code where
  | port (inp : Input)
  | produced (bytes : List Byte)
  | received (bytes : List Byte)
  deriving DecidableEq, Repr

/-- Why bytes are no frame of the table. An event word is never refused (30_encoding.md R71, R77). -/
inductive DecodeError where
  /-- A frame has exactly 20 bytes (00_scope.md R7); carries the length found. -/
  | frameLength (len : Nat)
  /-- 20 bytes that are none of the three command frames of 30_encoding.md R81. -/
  | noCommandFrame
  deriving DecidableEq, Repr

/-- The `field` operand of the assembler's `WR`: a name or a number 0..7 (30_encoding.md R86). -/
inductive AsmField where
  | fan
  | htemp
  | mode
  | heater
  | power
  | sound
  | num (fsel : BitVec 3)
  deriving DecidableEq, Repr

/-- The assembler forms of 30_encoding.md R86 and the pseudo-instructions of R87. -/
inductive Asm where
  | nop
  | rx (bytes : List Byte)
  | enc (op : Byte)
  | wr (field : AsmField) (val : Byte)
  | tick
  | tdn
  | rst
  | pair
  | req
  | set
  | decode (bytes : List Byte)
  | ticks (n : Nat)
  deriving DecidableEq, Repr

end Sys2Proof
end

