-- ==== Sys2Proof/Decode.lean ====
section
/-! DEFINITION. The event word's fields, the decoder, the frame formats and the encoder (30_encoding.md), the table's rows, and the assembler forms. Total; an event word is never refused (R77). -/

namespace Sys2Proof

/-! ## Bytes of a frame -/

/-- `TxByte(i) <- v` (00_scope.md R17). -/
def txByte (f : Frame) (i : Fin 20) (v : Byte) : Frame := f.set i.val v i.isLt

/-- `RxByte(i)` of a frame of length 20 (00_scope.md R17). -/
def rxByte (f : Frame) (i : Fin 20) : Byte := f[i.val]

/-- The bytes of a notification as a frame, when their number is exactly 20 (30_encoding.md R72). -/
def frameOf (bytes : List Byte) : Option Frame :=
  if h : bytes.length = 20 then some ⟨bytes.toArray, by simpa using h⟩ else none

/-! ## Command frame formats (30_encoding.md R81) -/

/-- `base(op)`: zeros, the magic bytes and the opcode (40_command_encode.md R100). -/
def cmdBase (op : Byte) : Frame :=
  txByte (txByte (txByte (Vector.replicate 20 0x00) 0 hdrMagic) 1 op) 19 trlMagic

/-- The Pair frame (40_command_encode.md R101). -/
def pairFrame : Frame := txByte (cmdBase opcPair) pairFlagOff pairFlagVal

/-- `reqFrame` (40_command_encode.md R102). -/
def reqFrame : Frame := cmdBase opcRequestState

/-- The SetState flags byte, `{0000, sound, 0, power, heater}` (30_encoding.md R84). -/
def setStateFlags (heater power sound : Bool) : Byte :=
  BitVec.ofBool false ++ BitVec.ofBool false ++ BitVec.ofBool false ++ BitVec.ofBool false ++
    BitVec.ofBool sound ++ BitVec.ofBool false ++ BitVec.ofBool power ++ BitVec.ofBool heater

/-- The SetState frame (40_command_encode.md R103), its bytes where the `Cfg` puts them (00_scope.md R9). -/
def setStateFrame (c : Cfg) (fan htemp mode : Byte) (heater power sound : Bool) : Frame :=
  let f := cmdBase opcSetState
  let f := txByte f c.ssOffFan fan
  let f := txByte f c.ssOffHtemp htemp
  let f := txByte f c.ssOffMode mode
  let f := txByte f c.ssOffFlags (setStateFlags heater power sound)
  txByte f c.ssOffConst c.ssConstVal

/-- The SetState frame that carries the bytes `f` has at the SetState positions: `f` itself exactly when `f` is a SetState frame. -/
def readSetState (c : Cfg) (f : Frame) : Instr :=
  let flags := rxByte f c.ssOffFlags
  .frameSetState (rxByte f c.ssOffFan) (rxByte f c.ssOffHtemp) (rxByte f c.ssOffMode)
    (flags.getLsbD 0) (flags.getLsbD 1) (flags.getLsbD 3)

/-- Is `f` the SetState frame of the fields it carries? (30_encoding.md R81, R84.) -/
def isSetState (c : Cfg) (f : Frame) : Bool :=
  let flags := rxByte f c.ssOffFlags
  f == setStateFrame c (rxByte f c.ssOffFan) (rxByte f c.ssOffHtemp) (rxByte f c.ssOffMode)
    (flags.getLsbD 0) (flags.getLsbD 1) (flags.getLsbD 3)

/-! ## Fields of the event word (30_encoding.md R71, R85) -/

/-- `kind` = ev[2:0]. -/
def evKind (ev : BitVec 32) : BitVec 3 := ev.extractLsb' 0 3

/-- `op` = ev[15:8], read by ENC. -/
def evOp (ev : BitVec 32) : Byte := ev.extractLsb' 8 8

/-- `val` = ev[15:8], read by WR. -/
def evVal (ev : BitVec 32) : Byte := ev.extractLsb' 8 8

/-- `fsel` = ev[18:16], read by WR. -/
def evFsel (ev : BitVec 32) : BitVec 3 := ev.extractLsb' 16 3

/-! ## The decoder -/

/-- The ENC row of an opcode (30_encoding.md R75). -/
def decodeEnc (op : Byte) : Instr :=
  if op = opcRequestState then .encRequestState
  else if op = opcSetState then .encSetState
  else if op = opcPair then .encPair
  else .encUnsupported op

/-- The WR row of a field select (30_encoding.md R76). -/
def decodeWr (fsel : BitVec 3) (val : Byte) : Instr :=
  match fsel.toNat with
  | 0 => .wrFan val
  | 1 => .wrHtemp val
  | 2 => .wrMode val
  | 3 => .wrHeater val
  | 4 => .wrPower val
  | 5 => .wrSound val
  | _ => .wrReserved fsel val

/-- The row an event word selects (30_encoding.md R74, R77). The data channel is read for RX only (R72). -/
def decodeEvent (ev : BitVec 32) (data : List Byte) : Instr :=
  match (evKind ev).toNat with
  | 0 => .nop
  | 1 => .rx data
  | 2 => decodeEnc (evOp ev)
  | 3 => decodeWr (evFsel ev) (evVal ev)
  | 4 => .tick
  | 5 => .tdn
  | _ => .reservedEvent (evKind ev)

/-- What one step performs: `rst` overrides the event word and the data channel (30_encoding.md R73). -/
def decodeInput (inp : Input) : Instr :=
  if inp.rst then .rst else decodeEvent inp.ev inp.rx

/-- A produced frame as a row of the table, refused by name when it is none (30_encoding.md R81). -/
def decodeProduced (c : Cfg) (bytes : List Byte) : Except DecodeError Instr :=
  match frameOf bytes with
  | none => .error (.frameLength bytes.length)
  | some f =>
    if f = pairFrame then .ok .framePair
    else if f = reqFrame then .ok .frameRequestState
    else if isSetState c f then .ok (readSetState c f)
    else .error .noCommandFrame

/-- A received frame: any 20 bytes (30_encoding.md R82). -/
def decodeReceived (bytes : List Byte) : Except DecodeError Instr :=
  match frameOf bytes with
  | none => .error (.frameLength bytes.length)
  | some f => .ok (.frameTelemetry f)

/-- The decoder over all four formats of the table; a SetState frame's bytes stand where the `Cfg` puts them (00_scope.md R9). -/
def decode (c : Cfg) : Code → Except DecodeError Instr
  | .port inp => .ok (decodeInput inp)
  | .produced bytes => decodeProduced c bytes
  | .received bytes => decodeReceived bytes

/-! ## The encoder (30_encoding.md R71, R86; ignored bits are 0) -/

/-- A step that presents the event word `ev`. -/
def eventInput (ev : BitVec 32) : Input := { rst := false, ev := ev, rx := [] }

/-- `0x00000002 | op << 8` (30_encoding.md R86). -/
def encWord (op : Byte) : BitVec 32 := 0x00000002#32 ||| (op.setWidth 32 <<< 8)

/-- `0x00000003 | val << 8 | fsel << 16` (30_encoding.md R86). -/
def wrWord (fsel : BitVec 3) (val : Byte) : BitVec 32 :=
  0x00000003#32 ||| (val.setWidth 32 <<< 8) ||| (fsel.setWidth 32 <<< 16)

/-- `RX [bytes]` (30_encoding.md R86). -/
def rxInput (bytes : List Byte) : Input := { rst := false, ev := 0x00000001#32, rx := bytes }

/-- `TICK` (30_encoding.md R86). -/
def tickInput : Input := eventInput 0x00000004#32

/-- `TDN` (30_encoding.md R86). -/
def tdnInput : Input := eventInput 0x00000005#32

/-- `RST`: any word with `rst` = 1, here the word 0 (30_encoding.md R86). -/
def rstInput : Input := { rst := true, ev := 0x00000000#32, rx := [] }

/-- The encoding of an instruction. -/
def encode (c : Cfg) : Instr → Code
  | .nop => .port (eventInput 0x00000000#32)
  | .rx data => .port (rxInput data)
  | .encRequestState => .port (eventInput (encWord opcRequestState))
  | .encSetState => .port (eventInput (encWord opcSetState))
  | .encPair => .port (eventInput (encWord opcPair))
  | .encUnsupported op => .port (eventInput (encWord op))
  | .wrFan val => .port (eventInput (wrWord 0 val))
  | .wrHtemp val => .port (eventInput (wrWord 1 val))
  | .wrMode val => .port (eventInput (wrWord 2 val))
  | .wrHeater val => .port (eventInput (wrWord 3 val))
  | .wrPower val => .port (eventInput (wrWord 4 val))
  | .wrSound val => .port (eventInput (wrWord 5 val))
  | .wrReserved fsel val => .port (eventInput (wrWord fsel val))
  | .tick => .port tickInput
  | .tdn => .port tdnInput
  | .reservedEvent kind => .port (eventInput (kind.setWidth 32))
  | .rst => .port rstInput
  | .framePair => .produced pairFrame.toList
  | .frameRequestState => .produced reqFrame.toList
  | .frameSetState fan htemp mode heater power sound =>
    .produced (setStateFrame c fan htemp mode heater power sound).toList
  | .frameTelemetry f => .received f.toList

/-! ## The opcode table's event rows (spec/opcode_table.json; 30_encoding.md R77) -/

/-- `mask` and `match` of an EV32 row. -/
structure TableRow where
  mask : BitVec 32
  bits : BitVec 32
  deriving DecidableEq, Repr

/-- The row of spec/opcode_table.json an event word's instruction stands for; none for the pin and the frame formats. -/
def eventRow : Instr → Option TableRow
  | .nop => some ⟨0x00000007#32, 0x00000000#32⟩
  | .rx _ => some ⟨0x00000007#32, 0x00000001#32⟩
  | .encRequestState => some ⟨0x0000FF07#32, 0x00000102#32⟩
  | .encSetState => some ⟨0x0000FF07#32, 0x00000202#32⟩
  | .encPair => some ⟨0x0000FF07#32, 0x00000502#32⟩
  | .encUnsupported _ => some ⟨0x00000007#32, 0x00000002#32⟩
  | .wrFan _ => some ⟨0x00070007#32, 0x00000003#32⟩
  | .wrHtemp _ => some ⟨0x00070007#32, 0x00010003#32⟩
  | .wrMode _ => some ⟨0x00070007#32, 0x00020003#32⟩
  | .wrHeater _ => some ⟨0x00070007#32, 0x00030003#32⟩
  | .wrPower _ => some ⟨0x00070007#32, 0x00040003#32⟩
  | .wrSound _ => some ⟨0x00070007#32, 0x00050003#32⟩
  | .wrReserved _ _ => some ⟨0x00060007#32, 0x00060003#32⟩
  | .tick => some ⟨0x00000007#32, 0x00000004#32⟩
  | .tdn => some ⟨0x00000007#32, 0x00000005#32⟩
  | .reservedEvent _ => some ⟨0x00000006#32, 0x00000006#32⟩
  | .rst => none
  | .framePair => none
  | .frameRequestState => none
  | .frameSetState _ _ _ _ _ _ => none
  | .frameTelemetry _ => none

/-- The sixteen EV32 rows, in the table's order. -/
def eventRows : List TableRow :=
  [⟨0x00000007#32, 0x00000000#32⟩, ⟨0x00000007#32, 0x00000001#32⟩, ⟨0x0000FF07#32, 0x00000102#32⟩,
   ⟨0x0000FF07#32, 0x00000202#32⟩, ⟨0x0000FF07#32, 0x00000502#32⟩, ⟨0x00000007#32, 0x00000002#32⟩,
   ⟨0x00070007#32, 0x00000003#32⟩, ⟨0x00070007#32, 0x00010003#32⟩, ⟨0x00070007#32, 0x00020003#32⟩,
   ⟨0x00070007#32, 0x00030003#32⟩, ⟨0x00070007#32, 0x00040003#32⟩, ⟨0x00070007#32, 0x00050003#32⟩,
   ⟨0x00060007#32, 0x00060003#32⟩, ⟨0x00000007#32, 0x00000004#32⟩, ⟨0x00000007#32, 0x00000005#32⟩,
   ⟨0x00000006#32, 0x00000006#32⟩]

/-- Does a row's match and mask accept a word? -/
def TableRow.accepts (r : TableRow) (ev : BitVec 32) : Bool := ev &&& r.mask == r.bits

/-- How many one-bits a row's mask has. -/
def TableRow.weight (r : TableRow) : Nat :=
  (List.range 32).countP (fun k => r.mask.getLsbD k)

/-! ## The assembler forms (30_encoding.md R86, R87) -/

/-- The field select a `field` names (30_encoding.md R86). -/
def AsmField.fsel : AsmField → BitVec 3
  | .fan => 0
  | .htemp => 1
  | .mode => 2
  | .heater => 3
  | .power => 4
  | .sound => 5
  | .num n => n

/-- The steps an assembler form stands for (30_encoding.md R86, R87). -/
def assemble : Asm → List Input
  | .nop => [eventInput 0x00000000#32]
  | .rx bytes => [rxInput bytes]
  | .enc op => [eventInput (encWord op)]
  | .wr field val => [eventInput (wrWord field.fsel val)]
  | .tick => [tickInput]
  | .tdn => [tdnInput]
  | .rst => [rstInput]
  | .pair => [eventInput (encWord 0x05)]
  | .req => [eventInput (encWord 0x01)]
  | .set => [eventInput (encWord 0x02)]
  | .decode bytes => [rxInput bytes]
  | .ticks n => List.replicate n tickInput

/-! ## Words numbered as the table numbers them -/

/-- The low `n` bytes of `w`, the least significant first. -/
def bytesOfNat : Nat → Nat → List Byte
  | 0, _ => []
  | n + 1, w => BitVec.ofNat 8 w :: bytesOfNat n (w / 256)

/-- What the table's bits `w` are presented as: up to 40 bits, the event word with `rst` at bit 32; 160 bits, a frame, byte 0 in bits 7..0, the first of the command frames that matches, else a received frame (log entry 5). -/
def tableCode (c : Cfg) (nbits w : Nat) : Option Code :=
  let w := w % 2 ^ nbits
  if nbits ≤ 40 then
    some (.port { rst := w.testBit 32, ev := BitVec.ofNat 32 w, rx := [] })
  else if nbits = 160 then
    let bytes := bytesOfNat 20 w
    match decodeProduced c bytes with
    | .ok _ => some (.produced bytes)
    | .error _ => some (.received bytes)
  else none

/-- The instruction the decoder reads from the table's bits `w`, a SetState frame laid out as the table's row has it (log entry 5). -/
def decodeTableWord (nbits w : Nat) : Option Instr :=
  match tableCode Config.cfg nbits w with
  | none => none
  | some code =>
    match decode Config.cfg code with
    | .ok i => some i
    | .error _ => none

end Sys2Proof
end

