-- ==== Sys2Proof/Machine/State.lean ====
section
/-! DEFINITION. The state: the DeviceState bank (10_state.md R23 to R39), the watchdog registers (R40), and the model's own output record (R42), event queue and configuration (log entries 1, 3 and 6). -/

namespace Sys2Proof.Machine

/-- The DeviceState register bank (10_state.md R23). -/
structure DeviceState where
  /-- R24, u8. -/
  fanSpeed : Byte
  /-- R25, u8: 0 Closed, 1 Mixed, 2 Open, other values kept. -/
  airIntakeMode : Byte
  /-- R26. -/
  heaterOn : Bool
  /-- R27. -/
  powerOn : Bool
  /-- R28. -/
  timerOn : Bool
  /-- R29. -/
  soundOn : Bool
  /-- R30. -/
  magicAirConnected : Bool
  /-- R31. -/
  presetsOn : Bool
  /-- R32, u8. -/
  heaterTemperature : Byte
  /-- R33, the pattern of an s8. -/
  temperatureIn : Byte
  /-- R34, the pattern of an s8. -/
  temperatureOut : Byte
  /-- R35, u9, 1..360. -/
  resourceFiltersDays : BitVec 9
  /-- R36, u8. -/
  errorCode : Byte
  /-- R37, u8. -/
  timeHour : Byte
  /-- R38, u8. -/
  timeMinute : Byte
  /-- R39, u8. -/
  productivity : Byte
  deriving DecidableEq, Repr

/-- `W.state` (10_state.md R40). -/
inductive WdState where
  | idle
  | armed
  deriving DecidableEq, Repr

/-- The watchdog registers (10_state.md R40). -/
structure Watchdog where
  /-- `W.state`, 1 bit. -/
  state : WdState
  /-- `W.count`, u14: TICK events still to come before the pending re-query fires. -/
  count : BitVec 14
  deriving DecidableEq, Repr

/-- The status of an event with its info (60_exceptions.md R191; "the info column is what a model records with the status"). -/
inductive Status where
  | ok
  | invalidLength (len : Nat)
  | unsupportedOpcode (op : Byte)
  | badField (fsel : BitVec 3)
  | badEvent (kind : BitVec 3)
  deriving DecidableEq, Repr

/-- The output record of one step (10_state.md R42). -/
structure Out where
  status : Status
  envUnexpected : Bool
  frameOut : Option Frame
  wdTx : Option Frame
  stale : Bool
  deriving DecidableEq, Repr

/-- The machine: the block's registers and, as the model's own fields, what the last step put out, what the environment presents next and the configuration the step takes. -/
structure State where
  /-- The DeviceState bank. -/
  dev : DeviceState
  /-- The watchdog registers. -/
  wd : Watchdog
  /-- MODEL's own field: the output record of the step just taken (log entry 3). -/
  out : Out
  /-- MODEL's own field: the events the environment presents, the next one first (log entry 1). -/
  inputs : List Input
  /-- MODEL's own field: the `Cfg` argument of 00_scope.md R18's step, written by no event (10_state.md R45; log entry 6). -/
  cfg : Cfg
  deriving DecidableEq, Repr

/-- Why a step is not taken. None is an error of the block, which never traps (60_exceptions.md R190). -/
inductive Fault where
  /-- Raised by step alone, when the environment presents no event: then no step is taken (30_encoding.md R70; log entry 2). Safe: the hardware waits. -/
  | noEvent
  /-- Raised by TICK alone, at `W.state` Armed with `W.count` 0, which 10_state.md R41 rules out and the spec gives no effect (log entry 8). Safe: no state reached from reset raises it. -/
  | watchdogCountZero
  deriving DecidableEq, Repr

/-- Why an instruction has no meaning. -/
inductive Refusal where
  /-- Raised by exec's arm of an instruction whose meaning is not written; no arm raises it now. Safe: the model stops where the hardware goes on. -/
  | notModelled (mnemonic : String)
  deriving DecidableEq, Repr

/-- The DeviceState reset values (10_state.md R24 to R39). -/
def DeviceState.initial (c : Cfg) : DeviceState where
  fanSpeed := c.fanSpeedMin
  airIntakeMode := 0
  heaterOn := false
  powerOn := false
  timerOn := false
  soundOn := false
  magicAirConnected := false
  presetsOn := false
  heaterTemperature := 0
  temperatureIn := 0
  temperatureOut := 0
  resourceFiltersDays := BitVec.ofNat 9 filterDefault
  errorCode := 0
  timeHour := 0
  timeMinute := 0
  productivity := 0

/-- The watchdog reset values (10_state.md R40). -/
def Watchdog.initial : Watchdog where
  state := .idle
  count := 0

/-- The idle output record (10_state.md R42). -/
def Out.idle : Out where
  status := .ok
  envUnexpected := false
  frameOut := none
  wdTx := none
  stale := false

/-- The machine of configuration `c` right after reset (70_reset_and_hazards.md R210), with no event presented yet (log entry 2). -/
def State.resetUnder (c : Cfg) : State where
  dev := DeviceState.initial c
  wd := Watchdog.initial
  out := Out.idle
  inputs := []
  cfg := c

/-- The machine right after reset, at the default configuration (log entry 6). -/
def State.reset : State := State.resetUnder Config.cfg

end Sys2Proof.Machine
end

