-- ==== Sys2Proof/Machine/Operands.lean ====
section
/-! DEFINITION. The operand forms: payload bytes (20_memory.md R52), nibbles, bits, the sign decoder, the word assembler, fusion, filter-day normalization and the percentage (41_telemetry_decode.md). -/

namespace Sys2Proof.Machine

/-- `p(k)` = `RxByte(PAYLOAD_OFF + k)` (20_memory.md R52). -/
def payload (f : Frame) (k : Fin 17) : Byte :=
  rxByte f ⟨payloadOff + k.val, Nat.add_lt_add_left k.isLt 2 |>.trans (by decide)⟩

/-- `zext_8(v[3:0])`, the low nibble (41_telemetry_decode.md R125). -/
def lowNibble (v : Byte) : Byte := (v.extractLsb' 0 4).setWidth 8

/-- `zext_8(v[7:4])`, the high nibble (41_telemetry_decode.md R125). -/
def highNibble (v : Byte) : Byte := (v.extractLsb' 4 4).setWidth 8

/-- `fdiv(x, y)`, floor division (00_scope.md R16). -/
def fdiv (x y : Int) : Int := Int.fdiv x y

/-- The sign decoder `sdec8` (41_telemetry_decode.md R128). -/
def sdec8 (v : Byte) : Int :=
  if v.getLsbD 7 = false then (v.toNat : Int)
  else -(128 - ((v &&& 0x7F#8).toNat : Int))

/-- The s8 field that holds an `Int` of -128..127 (00_scope.md R16, 10_state.md R33, R34). -/
def s8 (x : Int) : Byte := BitVec.ofInt 8 x

/-- Temperature fusion `fuse`, both substitutions from the original values (41_telemetry_decode.md R130; 90_conflicts.md C2). -/
def fuse (a b : Int) : Int :=
  let a' := if a ≤ 0 then b else a
  let b' := if b ≤ 0 then a else b
  fdiv (a' + b') 2

/-- The 2-byte word assembler `word16`, `lo` first (41_telemetry_decode.md R132; 20_memory.md R54). -/
def word16 (lo hi : Byte) : BitVec 16 := BitVec.ofNat 16 (lo.toNat + hi.toNat * 256)

/-- Filter-day normalization `normDays` (41_telemetry_decode.md R133). -/
def normDays (v : BitVec 16) : BitVec 9 :=
  if v.toNat ≤ 0 ∨ filterMax < v.toNat then BitVec.ofNat 9 filterFallback
  else BitVec.ofNat 9 v.toNat

/-- The percentage function `pct` (41_telemetry_decode.md R143). -/
def pct (d : Int) : Int :=
  if d < 1 ∨ (filterMax : Int) < d then 1 else fdiv (d * 100) 360

/-- A boolean field written by WR takes `val[0]` (30_encoding.md R85). -/
def boolOperand (val : Byte) : Bool := val.getLsbD 0

end Sys2Proof.Machine
end

