-- ==== Sys2Proof/Machine/Flags.lean ====
section
/-! DEFINITION. The flag computations: the telemetry flag bits (30_encoding.md R83), the SetState flags byte of a bank (R84), the envelope flag (41_telemetry_decode.md R122) and the status codes (60_exceptions.md R191). The block has no condition flags (10_state.md R22). -/

namespace Sys2Proof.Machine

/-- `p(2)[0]` (41_telemetry_decode.md R126). -/
def flagHeaterOn (f : Frame) : Bool := (payload f 2).getLsbD 0

/-- `p(2)[1]` (41_telemetry_decode.md R126). -/
def flagPowerOn (f : Frame) : Bool := (payload f 2).getLsbD 1

/-- `p(2)[2]` (41_telemetry_decode.md R126). -/
def flagTimerOn (f : Frame) : Bool := (payload f 2).getLsbD 2

/-- `p(2)[3]` (41_telemetry_decode.md R126). -/
def flagSoundOn (f : Frame) : Bool := (payload f 2).getLsbD 3

/-- `p(2)[5]` (41_telemetry_decode.md R126). -/
def flagMagicAir (f : Frame) : Bool := (payload f 2).getLsbD 5

/-- `p(P_PRESETS_BYTE)[P_PRESETS_BIT]`, both OPEN (41_telemetry_decode.md R137). -/
def flagPresets (c : Cfg) (f : Frame) : Bool := (payload f c.presetsByte).getLsbD c.presetsBit.val

/-- `envelopeUnexpected` (41_telemetry_decode.md R122). -/
def envelopeUnexpected (c : Cfg) (f : Frame) : Bool :=
  rxByte f 0 != hdrMagic || rxByte f 19 != trlMagic ||
    match c.respCodeCheck with
    | none => false
    | some r => rxByte f 1 != r

/-- The 3-bit code on the `status` output (60_exceptions.md R191). -/
def Status.code : Status → BitVec 3
  | .ok => 0
  | .invalidLength _ => 1
  | .unsupportedOpcode _ => 2
  | .badField _ => 3
  | .badEvent _ => 4

end Sys2Proof.Machine
end

