-- ==== Sys2Proof/Machine/Ops.lean ====
section
/-! DEFINITION. The shared operations over the registers and the output record: raising a status, emitting a frame, the payload decoder and the commit, host writes, the watchdog, the read ports. -/

namespace Sys2Proof.Machine

/-! ## The output record -/

/-- The event ends with output record `o` and no register written. -/
def State.withOut (s : State) (o : Out) : State := { s with out := o }

/-- `raise <Status>(info)`: the event ends with that status, changes no register and produces no frame (00_scope.md R17, 60_exceptions.md R190). The block's only exception entry; nothing returns from it (R198). -/
def State.raise (s : State) (st : Status) : State := s.withOut { Out.idle with status := st }

/-- `emit frame_out(f); status <- OK` (40_command_encode.md R101 to R103). -/
def State.emitFrame (s : State) (f : Frame) : State := s.withOut { Out.idle with frameOut := some f }

/-- `status <- OK` and nothing else put out (10_state.md R42). -/
def State.quiet (s : State) : State := s.withOut Out.idle

/-! ## Register writes -/

/-- The bank replaced whole (10_state.md R23). -/
def State.withDev (s : State) (d : DeviceState) : State := { s with dev := d }

/-- Both watchdog registers written together (43_watchdog.md R171). -/
def State.withWd (s : State) (w : Watchdog) : State := { s with wd := w }

/-- The environment's queue replaced. -/
def State.withInputs (s : State) (q : List Input) : State := { s with inputs := q }

/-- The same registers under another configuration. No meaning uses it (10_state.md R45). -/
def State.withCfg (s : State) (c : Cfg) : State := { s with cfg := c }

/-- `S.fanSpeed <- v` (42_state_write.md R161). -/
def DeviceState.setFanSpeed (d : DeviceState) (v : Byte) : DeviceState := { d with fanSpeed := v }

/-- `S.heaterTemperature <- v` (42_state_write.md R162). -/
def DeviceState.setHeaterTemperature (d : DeviceState) (v : Byte) : DeviceState := { d with heaterTemperature := v }

/-- `S.airIntakeMode <- v` (42_state_write.md R163). -/
def DeviceState.setAirIntakeMode (d : DeviceState) (v : Byte) : DeviceState := { d with airIntakeMode := v }

/-- `S.heaterOn <- b` (42_state_write.md R164). -/
def DeviceState.setHeaterOn (d : DeviceState) (b : Bool) : DeviceState := { d with heaterOn := b }

/-- `S.powerOn <- b` (42_state_write.md R165). -/
def DeviceState.setPowerOn (d : DeviceState) (b : Bool) : DeviceState := { d with powerOn := b }

/-- `S.soundOn <- b` (42_state_write.md R166). -/
def DeviceState.setSoundOn (d : DeviceState) (b : Bool) : DeviceState := { d with soundOn := b }

/-- A WR event: the bank takes its new value, status OK, nothing else (42_state_write.md R160). -/
def State.hostWrite (s : State) (d : DeviceState) : State := (s.withDev d).quiet

/-! ## The encoder -/

/-- The SetState frame of a bank as it stands (40_command_encode.md R103). -/
def DeviceState.setStateFrame (c : Cfg) (d : DeviceState) : Frame :=
  Sys2Proof.setStateFrame c d.fanSpeed d.heaterTemperature d.airIntakeMode d.heaterOn d.powerOn d.soundOn

/-! ## The telemetry decoder -/

/-- `decodePayload`: a whole DeviceState from the payload bytes alone (41_telemetry_decode.md R124). -/
def decodePayload (c : Cfg) (f : Frame) : DeviceState where
  fanSpeed := lowNibble (payload f 0)
  airIntakeMode := highNibble (payload f 0)
  heaterOn := flagHeaterOn f
  powerOn := flagPowerOn f
  timerOn := flagTimerOn f
  soundOn := flagSoundOn f
  magicAirConnected := flagMagicAir f
  presetsOn := flagPresets c f
  heaterTemperature := payload f 1
  temperatureIn := s8 (sdec8 (payload f 6))
  temperatureOut := s8 (fuse (sdec8 (payload f 4)) (sdec8 (payload f 5)))
  resourceFiltersDays := normDays (word16 (payload f 7) (payload f 8))
  errorCode := payload f errorCodeOff
  timeHour := payload f c.timeHourOff
  timeMinute := payload f c.timeMinOff
  productivity := payload f c.productivityOff

/-! ## The watchdog -/

/-- `telemetryReceived`: Armed with the full timeout, in any state (43_watchdog.md R171). -/
def Watchdog.armed (c : Cfg) : Watchdog where
  state := .armed
  count := BitVec.ofNat 14 c.timeoutTicks

/-- `W.count <- W.count - 1` (43_watchdog.md R173). -/
def Watchdog.countDown (w : Watchdog) : Watchdog := { w with count := w.count - 1 }

/-- What a fire puts out: the re-query and the stale pulse, for this step only (43_watchdog.md R174, 70_reset_and_hazards.md R220). -/
def Out.fire : Out := { Out.idle with wdTx := some reqFrame, stale := true }

/-- One TICK (43_watchdog.md R172 to R174). Armed with count 0 is ruled out by 10_state.md R41 and stops by name (log entry 8). -/
def State.tickWatchdog (s : State) : Host.Outcome State Fault Refusal :=
  match s.wd.state with
  | .idle => .next s.quiet
  | .armed =>
    if s.wd.count = 0 then .fault .watchdogCountZero
    else if s.wd.count = 1 then .next ((s.withWd Watchdog.initial).withOut Out.fire)
    else .next (s.withWd s.wd.countDown).quiet

/-! ## Accepting a telemetry frame -/

/-- A frame of length 20: commit, re-arm and the envelope warning in one step (41_telemetry_decode.md R120, R140, R141). -/
def State.acceptTelemetry (f : Frame) (s : State) : State :=
  ((s.withDev (decodePayload s.cfg f)).withWd (Watchdog.armed s.cfg)).withOut
    { Out.idle with envUnexpected := envelopeUnexpected s.cfg f }

/-- RX of a notification: the length check, then acceptance (41_telemetry_decode.md R120, R121). -/
def State.receive (data : List Byte) (s : State) : State :=
  match frameOf data with
  | none => s.raise (.invalidLength data.length)
  | some f => s.acceptTelemetry f

/-! ## Reset and teardown -/

/-- Every register at its reset value, idle outputs; the environment's queue and the configuration stay (70_reset_and_hazards.md R210, 43_watchdog.md R177, log entries 1 and 6). -/
def State.restore (s : State) : State :=
  ((s.withDev (DeviceState.initial s.cfg)).withWd Watchdog.initial).quiet

/-! ## Read ports -/

/-- The continuous read ports (10_state.md R43): the whole bank, `W.state` and `pct`; `W.count` has none. -/
structure ReadPorts where
  dev : DeviceState
  wdState : WdState
  pct : BitVec 7
  deriving DecidableEq, Repr

/-- What the read ports show (10_state.md R43, 41_telemetry_decode.md R144). -/
def State.readPorts (s : State) : ReadPorts where
  dev := s.dev
  wdState := s.wd.state
  pct := BitVec.ofInt 7 (Machine.pct (s.dev.resourceFiltersDays.toNat : Int))

end Sys2Proof.Machine
end

