-- ==== Sys2Proof/Machine/Encoder.lean ====
section
/-! DEFINITION. The command frame encoder's events (40_command_encode.md) and the command frame rows of the table (30_encoding.md R81, log entry 4). -/

namespace Sys2Proof.Machine

/-- ENC_PAIR (40_command_encode.md R101). -/
def execEncPair (s : State) : Host.Outcome State Fault Refusal := .next (s.emitFrame pairFrame)

/-- ENC_REQUEST_STATE (40_command_encode.md R102). -/
def execEncRequestState (s : State) : Host.Outcome State Fault Refusal := .next (s.emitFrame reqFrame)

/-- ENC_SET_STATE (40_command_encode.md R103). -/
def execEncSetState (s : State) : Host.Outcome State Fault Refusal :=
  .next (s.emitFrame (s.dev.setStateFrame s.cfg))

/-- ENC_UNSUPPORTED (40_command_encode.md R105). -/
def execEncUnsupported (op : Byte) (s : State) : Host.Outcome State Fault Refusal :=
  .next (s.raise (.unsupportedOpcode op))

/-- FRAME_PAIR: the Pair frame crosses `frame_out` (40_command_encode.md R101, log entry 4). -/
def execFramePair (s : State) : Host.Outcome State Fault Refusal := .next (s.emitFrame pairFrame)

/-- FRAME_REQUEST_STATE: `reqFrame` crosses `frame_out` (40_command_encode.md R102, log entry 4). -/
def execFrameRequestState (s : State) : Host.Outcome State Fault Refusal := .next (s.emitFrame reqFrame)

/-- FRAME_SET_STATE: the SetState frame with these bytes and bits crosses `frame_out` (40_command_encode.md R103, log entry 4). -/
def execFrameSetState (fan htemp mode : Byte) (heater power sound : Bool) (s : State) :
    Host.Outcome State Fault Refusal :=
  .next (s.emitFrame (setStateFrame s.cfg fan htemp mode heater power sound))

end Sys2Proof.Machine
end

