-- ==== Sys2Proof/Machine/Freshness.lean ====
section
/-! DEFINITION. The freshness watchdog's events, NOP, the reserved kinds and the reset pin (43_watchdog.md; 70_reset_and_hazards.md R210). -/

namespace Sys2Proof.Machine

/-- NOP (43_watchdog.md R178). -/
def execNop (s : State) : Host.Outcome State Fault Refusal := .next s.quiet

/-- TICK (43_watchdog.md R172 to R174). -/
def execTick (s : State) : Host.Outcome State Fault Refusal := s.tickWatchdog

/-- TDN (43_watchdog.md R177). -/
def execTdn (s : State) : Host.Outcome State Fault Refusal := .next (s.restore)

/-- RESERVED_EVENT (43_watchdog.md R179). -/
def execReservedEvent (kind : BitVec 3) (s : State) : Host.Outcome State Fault Refusal :=
  .next (s.raise (.badEvent kind))

/-- RST (70_reset_and_hazards.md R210). -/
def execRst (s : State) : Host.Outcome State Fault Refusal := .next (s.restore)

end Sys2Proof.Machine
end

