-- ==== Sys2Proof/Machine/HostWrite.lean ====
section
/-! DEFINITION. Host writes to DeviceState (42_state_write.md). -/

namespace Sys2Proof.Machine

/-- WR_FAN, no range check (42_state_write.md R161). -/
def execWrFan (val : Byte) (s : State) : Host.Outcome State Fault Refusal :=
  .next (s.hostWrite (s.dev.setFanSpeed val))

/-- WR_HTEMP (42_state_write.md R162). -/
def execWrHtemp (val : Byte) (s : State) : Host.Outcome State Fault Refusal :=
  .next (s.hostWrite (s.dev.setHeaterTemperature val))

/-- WR_MODE, no range check (42_state_write.md R163). -/
def execWrMode (val : Byte) (s : State) : Host.Outcome State Fault Refusal :=
  .next (s.hostWrite (s.dev.setAirIntakeMode val))

/-- WR_HEATER (42_state_write.md R164). -/
def execWrHeater (val : Byte) (s : State) : Host.Outcome State Fault Refusal :=
  .next (s.hostWrite (s.dev.setHeaterOn (boolOperand val)))

/-- WR_POWER (42_state_write.md R165). -/
def execWrPower (val : Byte) (s : State) : Host.Outcome State Fault Refusal :=
  .next (s.hostWrite (s.dev.setPowerOn (boolOperand val)))

/-- WR_SOUND (42_state_write.md R166). -/
def execWrSound (val : Byte) (s : State) : Host.Outcome State Fault Refusal :=
  .next (s.hostWrite (s.dev.setSoundOn (boolOperand val)))

/-- WR_RESERVED: `val` is unused (42_state_write.md R167). -/
def execWrReserved (fsel : BitVec 3) (s : State) : Host.Outcome State Fault Refusal :=
  .next (s.raise (.badField fsel))

end Sys2Proof.Machine
end

