-- ==== Sys2Proof/Machine/Telemetry.lean ====
section
/-! DEFINITION. The telemetry decoder's event (41_telemetry_decode.md) and the telemetry frame row of the table (30_encoding.md R82, log entry 4). -/

namespace Sys2Proof.Machine

/-- RX (41_telemetry_decode.md R120). -/
def execRx (data : List Byte) (s : State) : Host.Outcome State Fault Refusal :=
  .next (s.receive data)

/-- FRAME_TELEMETRY: a received frame of length 20 is accepted whatever its content (41_telemetry_decode.md R124, R140, log entry 4). -/
def execFrameTelemetry (frame : Frame) (s : State) : Host.Outcome State Fault Refusal :=
  .next (s.acceptTelemetry frame)

end Sys2Proof.Machine
end

