-- ==== Sys2Proof/Machine/Dispatch.lean ====
section
/-! DEFINITION. One arm per row of spec/opcode_table.json. -/

namespace Sys2Proof.Machine

def exec (i : Instr) (s : State) : Host.Outcome State Fault Refusal :=
  match i with
  | .nop => Sys2Proof.Machine.execNop s
  | .rx data => Sys2Proof.Machine.execRx data s
  | .encRequestState => Sys2Proof.Machine.execEncRequestState s
  | .encSetState => Sys2Proof.Machine.execEncSetState s
  | .encPair => Sys2Proof.Machine.execEncPair s
  | .encUnsupported op => Sys2Proof.Machine.execEncUnsupported op s
  | .wrFan val => Sys2Proof.Machine.execWrFan val s
  | .wrHtemp val => Sys2Proof.Machine.execWrHtemp val s
  | .wrMode val => Sys2Proof.Machine.execWrMode val s
  | .wrHeater val => Sys2Proof.Machine.execWrHeater val s
  | .wrPower val => Sys2Proof.Machine.execWrPower val s
  | .wrSound val => Sys2Proof.Machine.execWrSound val s
  | .wrReserved fsel _ => Sys2Proof.Machine.execWrReserved fsel s
  | .tick => Sys2Proof.Machine.execTick s
  | .tdn => Sys2Proof.Machine.execTdn s
  | .reservedEvent kind => Sys2Proof.Machine.execReservedEvent kind s
  | .rst => Sys2Proof.Machine.execRst s
  | .framePair => Sys2Proof.Machine.execFramePair s
  | .frameRequestState => Sys2Proof.Machine.execFrameRequestState s
  | .frameSetState fan htemp mode heater power sound => Sys2Proof.Machine.execFrameSetState fan htemp mode heater power sound s
  | .frameTelemetry frame => Sys2Proof.Machine.execFrameTelemetry frame s

end Sys2Proof.Machine
end

