-- ==== Sys2Proof/Machine/Ports.lean ====
section
/-! DEFINITION. How events reach the machine: the head of the queue (30_encoding.md R70 to R73), placing a table row's bits there, and the serialization of simultaneous strobes (60_exceptions.md R196). -/

namespace Sys2Proof.Machine

/-- The event presented to this step, and the state with it taken off the queue (30_encoding.md R70, 20_memory.md R61). -/
def State.takeEvent (s : State) : Option (Input × State) :=
  match s.inputs with
  | [] => none
  | inp :: rest => some (inp, s.withInputs rest)

/-- `inp` is presented next, before what the queue already holds. -/
def State.presentNext (s : State) (inp : Input) : State := s.withInputs (inp :: s.inputs)

/-- The bank whose SetState frame carries these bytes and bits. -/
def State.withSettable (s : State) (fan htemp mode : Byte) (heater power sound : Bool) : State :=
  s.withDev ((((((s.dev.setFanSpeed fan).setHeaterTemperature htemp).setAirIntakeMode mode).setHeaterOn heater).setPowerOn
    power).setSoundOn sound)

/-- The event by which the block produces or receives the frame of a frame row (log entry 5). A received frame comes with an RX event; a SetState frame also needs the bank that it shows. The other rows are no frames and are presented by their ports. -/
def State.presentRow (s : State) (i : Instr) : State :=
  match i with
  | .framePair => s.presentNext (eventInput (encWord opcPair))
  | .frameRequestState => s.presentNext (eventInput (encWord opcRequestState))
  | .frameSetState fan htemp mode heater power sound =>
    (s.withSettable fan htemp mode heater power sound).presentNext (eventInput (encWord opcSetState))
  | .frameTelemetry f => s.presentNext (rxInput f.toList)
  | .nop | .rx _ | .encRequestState | .encSetState | .encPair | .encUnsupported _ | .wrFan _ | .wrHtemp _ | .wrMode _
  | .wrHeater _ | .wrPower _ | .wrSound _ | .wrReserved _ _ | .tick | .tdn | .reservedEvent _ | .rst => s

/-- The table's bits `w` presented as the next event (log entry 5). -/
def State.placeTableWord (s : State) (nbits w : Nat) : State :=
  match tableCode s.cfg nbits w with
  | some (.port inp) => s.presentNext inp
  | some code =>
    match decode s.cfg code with
    | .ok i => s.presentRow i
    | .error _ => s
  | none => s

/-- What a realization with separate strobes may see in one clock cycle (60_exceptions.md R196). -/
structure Strobes where
  rst : Bool
  tdn : Bool
  tick : Bool
  rx : Option (List Byte)
  wr : Option (BitVec 3 × Byte)
  enc : Option Byte
  deriving DecidableEq, Repr

/-- The consecutive events of one cycle, in the order of 60_exceptions.md R196: `rst` and then TDN suppress every other occurrence; else TICK, RX, WR, ENC. -/
def Strobes.serialize (c : Strobes) : List Input :=
  if c.rst then [rstInput]
  else if c.tdn then [tdnInput]
  else
    (if c.tick then [tickInput] else []) ++
    (c.rx.toList.map rxInput) ++
    (c.wr.toList.map (fun p => eventInput (wrWord p.1 p.2))) ++
    (c.enc.toList.map (fun op => eventInput (encWord op)))

/-- A cycle's occurrences presented after what the queue already holds. -/
def State.presentCycle (s : State) (c : Strobes) : State := s.withInputs (s.inputs ++ c.serialize)

end Sys2Proof.Machine
end

