-- ==== Sys2Proof/Machine/Step.lean ====
section
/-! DEFINITION. One step takes one event (30_encoding.md R70). -/

namespace Sys2Proof.Machine

/-- One step: the event presented next runs; with none presented no step is taken (log entry 2). -/
def step (s : State) : Host.Outcome State Fault Refusal :=
  match s.takeEvent with
  | none => .fault .noEvent
  | some (inp, s') => exec (decodeInput inp) s'

/-- One step in the shape of 00_scope.md R18, `step : Cfg → State → Event → State × Out`: `inp` runs next, under the configuration `c`. -/
def stepUnder (c : Cfg) (s : State) (inp : Input) : Host.Outcome State Fault Refusal :=
  step ((s.withCfg c).presentNext inp)

/-- The table's bits `w` presented as the very next event (log entry 5). -/
def State.withFetchWord (s : State) (nbits w : Nat) : State := s.placeTableWord nbits w

end Sys2Proof.Machine
end

