-- ==== Sys2Proof/Safety.lean ====
section
/-! DEFINITION. What claims speak of: the invariant of the registers and of the output record, and the outputs of a run. -/

namespace Sys2Proof.Machine

/-- 10_state.md R41: Idle has count 0, Armed a count in 1..TIMEOUT_TICKS. -/
abbrev Watchdog.inRange (c : Cfg) (w : Watchdog) : Prop :=
  (w.state = .idle → w.count.toNat = 0) ∧
  (w.state = .armed → 1 ≤ w.count.toNat ∧ w.count.toNat ≤ c.timeoutTicks)

/-- 10_state.md R35: the filter-day field holds 1..360. -/
abbrev DeviceState.daysInRange (d : DeviceState) : Prop :=
  1 ≤ d.resourceFiltersDays.toNat ∧ d.resourceFiltersDays.toNat ≤ 360

/-- The output record of any step: an error carries nothing else (60_exceptions.md R190, R192), `stale` comes exactly with `wd_tx` (10_state.md R42), which is always `reqFrame` (43_watchdog.md R174) and never beside `frame_out`, and a frame put out has the magic bytes (40_command_encode.md R106). -/
abbrev Out.coherent (o : Out) : Prop :=
  (o.status ≠ .ok → o.envUnexpected = false ∧ o.frameOut = none ∧ o.wdTx = none ∧ o.stale = false) ∧
  (o.stale = true ↔ o.wdTx ≠ none) ∧
  (∀ f, o.wdTx = some f → f = reqFrame ∧ o.frameOut = none) ∧
  (∀ f, o.frameOut = some f → f[0] = 0x3D#8 ∧ f[19] = 0x5A#8)

/-- The invariant of the machine: the configuration is one that 00_scope.md R9 and R11 allow, and the registers and the output record are as above. -/
abbrev State.inv (s : State) : Prop :=
  s.cfg.wf ∧ s.wd.inRange s.cfg ∧ s.dev.daysInRange ∧ s.out.coherent

/-- Does a SetState frame show these bytes and bits at the positions the configuration gives (00_scope.md R9, 30_encoding.md R84)? -/
abbrev showsSettable (c : Cfg) (f : Frame) (fan htemp mode : Byte) (heater power sound : Bool) : Prop :=
  f[c.ssOffFan] = fan ∧ f[c.ssOffHtemp] = htemp ∧ f[c.ssOffMode] = mode ∧
  (f[c.ssOffFlags] : Byte).toNat = heater.toNat + 2 * power.toNat + 8 * sound.toNat

/-- Does a SetState frame show the bank `d` with the one field that `fsel` selects (0 to 5) taken from `val`, and `d` itself for the selects that write nothing (42_state_write.md R161 to R167)? -/
abbrev showsHostWrite (c : Cfg) (f : Frame) (d : DeviceState) (fsel : BitVec 3) (val : Byte) : Prop :=
  showsSettable c f
    (if fsel = 0 then val else d.fanSpeed)
    (if fsel = 1 then val else d.heaterTemperature)
    (if fsel = 2 then val else d.airIntakeMode)
    (if fsel = 3 then decide (val.toNat % 2 = 1) else d.heaterOn)
    (if fsel = 4 then decide (val.toNat % 2 = 1) else d.powerOn)
    (if fsel = 5 then decide (val.toNat % 2 = 1) else d.soundOn)

/-- The output records of the next `n` steps, ending early where no step is taken. -/
def outputs : Nat → State → List Out
  | 0, _ => []
  | n + 1, s =>
    match step s with
    | .next t => t.out :: outputs n t
    | .fault _ => []
    | .refused _ => []

/-- How many of the output records are watchdog fires (43_watchdog.md R174). -/
def fireCount (os : List Out) : Nat := os.countP (fun o => o.wdTx.isSome)

/-- Is this event a TICK? -/
def isTick (inp : Input) : Bool := decodeInput inp == .tick

/-- Is this event a status-OK RX, the only one that arms (43_watchdog.md R171)? -/
def arms (inp : Input) : Bool :=
  !inp.rst && inp.ev.toNat % 8 == 1 && inp.rx.length == 20

/-- Does this event cancel the pending timer or start a new arm cycle: a status-OK RX, TDN or reset (43_watchdog.md R182)? -/
def cancels (inp : Input) : Bool :=
  inp.rst || arms inp || inp.ev.toNat % 8 == 5

end Sys2Proof.Machine
end

