-- ==== Sys2Proof/WellFormed.lean ====
section
/-! DEFINITION. Which instructions an encoding exists for: the reserved rows carry reserved values only (30_encoding.md R74 to R78). -/

namespace Sys2Proof

/-- The three supported wire opcodes (30_encoding.md R75). -/
def supportedOps : List Byte := [opcRequestState, opcSetState, opcPair]

/-- The checks of 30_encoding.md R74 (kind 110, 111), R75 (any other opcode) and R76 (fsel 6, 7); every other operand is right by its type. -/
def Instr.wellFormed : Instr → Bool
  | .nop => true
  | .rx _ => true
  | .encRequestState => true
  | .encSetState => true
  | .encPair => true
  | .encUnsupported op => !supportedOps.contains op
  | .wrFan _ => true
  | .wrHtemp _ => true
  | .wrMode _ => true
  | .wrHeater _ => true
  | .wrPower _ => true
  | .wrSound _ => true
  | .wrReserved fsel _ => decide (6 ≤ fsel.toNat)
  | .tick => true
  | .tdn => true
  | .reservedEvent kind => decide (6 ≤ kind.toNat)
  | .rst => true
  | .framePair => true
  | .frameRequestState => true
  | .frameSetState _ _ _ _ _ _ => true
  | .frameTelemetry _ => true

end Sys2Proof
end

