-- ==== Sys2Proof/Certificates/Slice0/Obligations.lean ====
section
/-! DEFINITION. The statements for the provers. An output record is written `Out.mk status env_unexpected frame_out wd_tx stale` (10_state.md R42). -/

open Sys2Proof Sys2Proof.Machine

/-! ## Encoding -/

/-- Decoding an encoded well-formed instruction gives it back, over every row of the table, every operand and every configuration R9 allows (30_encoding.md sections 1 and 3). -/
def Obligations.DecodeInvertsEncode : Prop :=
  ∀ (c : Cfg) (i : Instr), c.wf → i.wellFormed = true → decode c (encode c i) = .ok i

/-- 30_encoding.md R71, R74 to R76: the fields of the event word, read as numbers, decide the instruction; every other bit is ignored. -/
def Obligations.EventFieldsDecideInstruction : Prop :=
  ∀ inp : Input, inp.rst = false →
    let kind := inp.ev.toNat % 8
    let op := inp.ev.toNat / 256 % 256
    let fsel := inp.ev.toNat / 65536 % 8
    decodeInput inp =
      if kind = 0 then .nop
      else if kind = 1 then .rx inp.rx
      else if kind = 2 then
        if op = 0x01 then .encRequestState
        else if op = 0x02 then .encSetState
        else if op = 0x05 then .encPair
        else .encUnsupported (BitVec.ofNat 8 op)
      else if kind = 3 then
        if fsel = 0 then .wrFan (BitVec.ofNat 8 op)
        else if fsel = 1 then .wrHtemp (BitVec.ofNat 8 op)
        else if fsel = 2 then .wrMode (BitVec.ofNat 8 op)
        else if fsel = 3 then .wrHeater (BitVec.ofNat 8 op)
        else if fsel = 4 then .wrPower (BitVec.ofNat 8 op)
        else if fsel = 5 then .wrSound (BitVec.ofNat 8 op)
        else .wrReserved (BitVec.ofNat 3 fsel) (BitVec.ofNat 8 op)
      else if kind = 4 then .tick
      else if kind = 5 then .tdn
      else .reservedEvent (BitVec.ofNat 3 kind)

/-- 30_encoding.md R77: for every event word exactly one row of opcode_table.json has the widest mask among those that accept it, and the decoder answers that row's instruction. -/
def Obligations.WidestAcceptingRowWins : Prop :=
  ∀ (ev : BitVec 32) (data : List Byte), ∃ r,
    eventRow (decodeEvent ev data) = some r ∧ r ∈ eventRows ∧ r.accepts ev = true ∧
    ∀ q ∈ eventRows, q.accepts ev = true → q.weight ≤ r.weight ∧ (q.weight = r.weight → q = r)

/-- Words the spec writes out (95_test_vectors.md sections 2.1, 2.8, 2.10) decode to the instructions they stand for. -/
def Obligations.SpecWordsDecode : Prop :=
  decodeInput (eventInput 0x00000502#32) = .encPair ∧
  decodeInput (eventInput 0xFFFF05FA#32) = .encPair ∧
  decodeInput (eventInput 0x00000402#32) = .encUnsupported 0x04#8 ∧
  decodeInput (eventInput 0x00011403#32) = .wrHtemp 0x14#8 ∧
  decodeInput (eventInput 0xFFF80403#32) = .wrFan 0x04#8 ∧
  decodeInput (eventInput 0x0007FF03#32) = .wrReserved 7#3 0xFF#8 ∧
  decodeInput (eventInput 0x00000004#32) = .tick ∧
  decodeInput (eventInput 0xFFFFFFFE#32) = .reservedEvent 6#3 ∧
  decodeInput ⟨true, 0x00000004#32, []⟩ = .rst

/-- A step runs the instruction its event decodes to, with that event taken off the queue (30_encoding.md R70, 20_memory.md R61; the queue is the model's, log entry 1). -/
def Obligations.StepRunsDecodedEvent : Prop :=
  (∀ (s : State) (inp : Input) (rest : List Input), s.inputs = inp :: rest →
    step s = exec (decodeInput inp) { s with inputs := rest }) ∧
  (∀ (s : State) (i : Instr) (inp : Input) (rest : List Input), i.wellFormed = true → encode s.cfg i = .port inp →
    s.inputs = inp :: rest → step s = exec i { s with inputs := rest })

/-- The model's choice (log entry 2): a step answers `noEvent` exactly when no event is presented. -/
def Obligations.StepNeedsAnEvent : Prop :=
  ∀ s : State, step s = .fault .noEvent ↔ s.inputs = []

/-- The model's choice (log entry 5): a table word of at most 32 bits placed as the next event runs as the very next step, from every state, and leaves the queue as it was. -/
def Obligations.PlacedTableWordRunsNext : Prop :=
  ∀ (s : State) (nbits w : Nat), nbits ≤ 32 →
    step (s.withFetchWord nbits w) = exec (decodeEvent (BitVec.ofNat 32 (w % 2 ^ nbits)) []) s

/-- 30_encoding.md R86, R87: what each assembler form and pseudo-instruction makes the block do. -/
def Obligations.AssemblerFormsDecode : Prop :=
  (assemble .nop).map decodeInput = [.nop] ∧
  (∀ bytes, (assemble (.rx bytes)).map decodeInput = [.rx bytes] ∧
    assemble (.decode bytes) = assemble (.rx bytes)) ∧
  (∀ op : Byte, ∃ inp, assemble (.enc op) = [inp] ∧ inp.rst = false ∧ inp.ev.toNat = 2 + 256 * op.toNat ∧
    decodeInput inp = decodeEnc op) ∧
  (∀ (field : AsmField) (val : Byte), ∃ inp, assemble (.wr field val) = [inp] ∧ inp.rst = false ∧
    inp.ev.toNat = 3 + 256 * val.toNat + 65536 * field.fsel.toNat ∧ decodeInput inp = decodeWr field.fsel val) ∧
  (assemble .tick).map decodeInput = [.tick] ∧ (assemble .tdn).map decodeInput = [.tdn] ∧
  (assemble .rst).map decodeInput = [.rst] ∧ (assemble .pair).map decodeInput = [.encPair] ∧
  (assemble .req).map decodeInput = [.encRequestState] ∧ (assemble .set).map decodeInput = [.encSetState] ∧
  (∀ n, (assemble (.ticks n)).map decodeInput = List.replicate n .tick)

/-! ## Command frame encoder -/

/-- 40_command_encode.md R101: ENC_PAIR puts out the constant Pair frame in every state, status OK, and writes no register. -/
def Obligations.PairFrameIsConstant : Prop :=
  (∀ inp : Input, inp.rst = false → inp.ev.toNat % 8 = 2 → inp.ev.toNat / 256 % 256 = 0x05 →
    decodeInput inp = .encPair) ∧
  ∀ s : State, ∃ f : Frame, exec .encPair s = .next { s with out := Out.mk .ok false (some f) none false } ∧
    f.toList = [0x3D, 0x05, 0x01, 0, 0, 0, 0, 0, 0, 0, 0, 0, 0, 0, 0, 0, 0, 0, 0, 0x5A]

/-- 40_command_encode.md R102: ENC_REQUEST_STATE puts out the constant `reqFrame` in every state and writes no register; the watchdog's frame is the same. -/
def Obligations.RequestFrameIsConstant : Prop :=
  (∀ inp : Input, inp.rst = false → inp.ev.toNat % 8 = 2 → inp.ev.toNat / 256 % 256 = 0x01 →
    decodeInput inp = .encRequestState) ∧
  (∀ s : State, ∃ f : Frame, exec .encRequestState s = .next { s with out := Out.mk .ok false (some f) none false } ∧
    f.toList = [0x3D, 0x01, 0, 0, 0, 0, 0, 0, 0, 0, 0, 0, 0, 0, 0, 0, 0, 0, 0, 0x5A]) ∧
  (∀ (s t : State) (f : Frame), exec .tick s = .next t → t.out.wdTx = some f →
    f.toList = [0x3D, 0x01, 0, 0, 0, 0, 0, 0, 0, 0, 0, 0, 0, 0, 0, 0, 0, 0, 0, 0x5A])

/-- 40_command_encode.md R103 with 30_encoding.md R84, at the default offsets: ENC_SET_STATE puts out the six settable fields as they stand, unchecked, and writes no register. SetStateFrameHonorsOffsets says it for every other configuration R9 allows. -/
def Obligations.SetStateFrameCarriesFields : Prop :=
  (∀ inp : Input, inp.rst = false → inp.ev.toNat % 8 = 2 → inp.ev.toNat / 256 % 256 = 0x02 →
    decodeInput inp = .encSetState) ∧
  ∀ s : State, s.cfg.defaultLayout →
    ∃ f : Frame, exec .encSetState s = .next { s with out := Out.mk .ok false (some f) none false } ∧
      f.toList = [0x3D, 0x02, 0x00, s.dev.fanSpeed, s.dev.heaterTemperature, s.dev.airIntakeMode,
        BitVec.ofNat 8 (s.dev.heaterOn.toNat + 2 * s.dev.powerOn.toNat + 8 * s.dev.soundOn.toNat),
        0x01, 0, 0, 0, 0, 0, 0, 0, 0, 0, 0, 0, 0x5A]

/-- 00_scope.md R9, 40_command_encode.md R103: under every configuration R9 allows, ENC_SET_STATE completes with a frame whose SetState bytes stand at the configured offsets and whose every other byte is as the base frame has it, and writes no register. -/
def Obligations.SetStateFrameHonorsOffsets : Prop :=
  ∀ s : State, s.cfg.wf →
    ∃ f : Frame, exec .encSetState s = .next { s with out := Out.mk .ok false (some f) none false } ∧
      f[0] = 0x3D#8 ∧ f[1] = 0x02#8 ∧ f[2] = 0x00#8 ∧ f[19] = 0x5A#8 ∧
      f[s.cfg.ssOffFan] = s.dev.fanSpeed ∧ f[s.cfg.ssOffHtemp] = s.dev.heaterTemperature ∧
      f[s.cfg.ssOffMode] = s.dev.airIntakeMode ∧
      (f[s.cfg.ssOffFlags] : Byte).toNat = s.dev.heaterOn.toNat + 2 * s.dev.powerOn.toNat + 8 * s.dev.soundOn.toNat ∧
      f[s.cfg.ssOffConst] = s.cfg.ssConstVal ∧
      ∀ k : Fin 20, 2 ≤ k.val → k.val ≤ 18 →
        k ∉ [s.cfg.ssOffFan, s.cfg.ssOffHtemp, s.cfg.ssOffMode, s.cfg.ssOffFlags, s.cfg.ssOffConst] → f[k] = 0x00#8

/-- 40_command_encode.md R105: every opcode but 0x01, 0x02, 0x05 gives UNSUPPORTED_OPCODE, no frame and no register written. -/
def Obligations.UnsupportedOpcodeIsRefused : Prop :=
  ∀ (s : State) (op : Byte), op ≠ 0x01 → op ≠ 0x02 → op ≠ 0x05 →
    (∀ inp : Input, inp.rst = false → inp.ev.toNat % 8 = 2 → inp.ev.toNat / 256 % 256 = op.toNat →
      decodeInput inp = .encUnsupported op) ∧
    exec (.encUnsupported op) s = .next { s with out := Out.mk (.unsupportedOpcode op) false none none false } ∧
    (Status.unsupportedOpcode op).code = 2

/-- 40_command_encode.md R104: whatever its opcode, an ENC event completes, writes neither DeviceState nor the watchdog, and transmits nothing. -/
def Obligations.EncWritesNoRegister : Prop :=
  ∀ (s : State) (inp : Input), inp.rst = false → inp.ev.toNat % 8 = 2 →
    ∃ t, exec (decodeInput inp) s = .next t ∧ t.dev = s.dev ∧ t.wd = s.wd ∧ t.inputs = s.inputs ∧
      t.out.wdTx = none ∧ t.out.stale = false

/-- 40_command_encode.md R106: under every configuration R9 allows, every supported ENC frame has 20 bytes, the magic bytes, its opcode in byte 1, and byte 2 = 1 for Pair only. -/
def Obligations.SupportedFrameShape : Prop :=
  ∀ (s : State) (op : Byte), s.cfg.wf → op = 0x01 ∨ op = 0x02 ∨ op = 0x05 →
    ∃ (t : State) (f : Frame), exec (decodeEnc op) s = .next t ∧ t.out.status = .ok ∧ t.out.frameOut = some f ∧
      f.toList.length = 20 ∧ f[0] = 0x3D#8 ∧ f[19] = 0x5A#8 ∧ f[1] = op ∧
      f[2] = (if op = 0x05 then 0x01#8 else 0x00#8)

/-- The model's choice (log entry 4): the command frame rows put their frame out and write no register; where an event produces the same frame, the two end in the same state. -/
def Obligations.CommandFrameRowsCrossFrameOut : Prop :=
  ∀ s : State,
    (∃ t, exec .framePair s = .next t ∧ exec .encPair s = .next t) ∧
    (∃ t, exec .frameRequestState s = .next t ∧ exec .encRequestState s = .next t) ∧
    (∀ (fan htemp mode : Byte) (heater power sound : Bool), ∃ f : Frame,
      exec (.frameSetState fan htemp mode heater power sound) s =
        .next { s with out := Out.mk .ok false (some f) none false } ∧
      (s.cfg.wf → showsSettable s.cfg f fan htemp mode heater power sound) ∧
      (s.cfg.defaultLayout → f.toList = [0x3D, 0x02, 0x00, fan, htemp, mode,
        BitVec.ofNat 8 (heater.toNat + 2 * power.toNat + 8 * sound.toNat),
        0x01, 0, 0, 0, 0, 0, 0, 0, 0, 0, 0, 0, 0x5A])) ∧
    exec (.frameSetState s.dev.fanSpeed s.dev.heaterTemperature s.dev.airIntakeMode s.dev.heaterOn s.dev.powerOn
      s.dev.soundOn) s = exec .encSetState s

/-! ## Telemetry decoder -/

/-- 41_telemetry_decode.md R121: a notification of any length but 20 gives INVALID_LENGTH with that length and changes no register. -/
def Obligations.WrongLengthIsDiscarded : Prop :=
  ∀ (s : State) (data : List Byte), data.length ≠ 20 →
    exec (.rx data) s = .next { s with out := Out.mk (.invalidLength data.length) false none none false } ∧
    (Status.invalidLength data.length).code = 1

/-- 41_telemetry_decode.md R124 (with R120, R141, R142): RX of 20 bytes commits every field from the payload bytes (byte k + 2 of the frame for p(k), at the offsets the configuration gives), whatever the bank held, arms the watchdog with the full timeout and puts out no frame. -/
def Obligations.TelemetryCommitsPayload : Prop :=
  ∀ (s : State) (data : List Byte), s.cfg.wf → data.length = 20 →
    let p := fun k : Nat => data.getD (k + 2) 0
    let a : Int := (p 4).toInt
    let b : Int := (p 5).toInt
    let days := (p 7).toNat + (p 8).toNat * 256
    ∃ t, exec (.rx data) s = .next t ∧
      t.dev.fanSpeed.toNat = (p 0).toNat % 16 ∧
      t.dev.airIntakeMode.toNat = (p 0).toNat / 16 ∧
      t.dev.heaterOn = (p 2).toNat.testBit 0 ∧
      t.dev.powerOn = (p 2).toNat.testBit 1 ∧
      t.dev.timerOn = (p 2).toNat.testBit 2 ∧
      t.dev.soundOn = (p 2).toNat.testBit 3 ∧
      t.dev.magicAirConnected = (p 2).toNat.testBit 5 ∧
      t.dev.heaterTemperature = p 1 ∧
      t.dev.temperatureIn.toInt = (p 6).toInt ∧
      t.dev.temperatureOut.toInt = ((if a ≤ 0 then b else a) + (if b ≤ 0 then a else b)) / 2 ∧
      t.dev.resourceFiltersDays.toNat = (if days = 0 ∨ 360 < days then 1 else days) ∧
      t.dev.errorCode = p 9 ∧ t.dev.timeHour = p s.cfg.timeHourOff.val ∧ t.dev.timeMinute = p s.cfg.timeMinOff.val ∧
      t.dev.presetsOn = (p s.cfg.presetsByte.val).toNat.testBit s.cfg.presetsBit.val ∧
      t.dev.productivity = p s.cfg.productivityOff.val ∧
      t.wd.state = .armed ∧ t.wd.count.toNat = s.cfg.timeoutTicks ∧ t.inputs = s.inputs ∧
      t.out.status = .ok ∧ t.out.frameOut = none ∧ t.out.wdTx = none ∧ t.out.stale = false

/-- 41_telemetry_decode.md R122: under every configuration RX of a frame completes with the envelope flag set exactly when byte 0, byte 19 or a checked byte 1 is not as expected; the flag never stops the commit or the re-arm. -/
def Obligations.EnvelopeFlagNeverBlocks : Prop :=
  ∀ (s : State) (f : Frame), ∃ t, exec (.rx f.toList) s = .next t ∧
    (t.out.envUnexpected = true ↔
      f[0] ≠ 0x3D#8 ∨ f[19] ≠ 0x5A#8 ∨ ∃ r, s.cfg.respCodeCheck = some r ∧ f[1] ≠ r) ∧
    t.out.status = .ok ∧ t.dev = decodePayload s.cfg f ∧ t.wd = Watchdog.armed s.cfg

/-- 41_telemetry_decode.md R123: under every configuration, the RX of two frames that differ in bytes 0, 1 and 19 only end in states that agree in every register and in every output but `env_unexpected`, the one value R122 computes from those bytes. -/
def Obligations.EnvelopeBytesStayOutOfState : Prop :=
  ∀ (s : State) (f g : Frame), (∀ k : Fin 20, 2 ≤ k.val → k.val ≤ 18 → f[k] = g[k]) →
    ∃ t u, exec (.rx f.toList) s = .next t ∧ exec (.rx g.toList) s = .next u ∧
      u.dev = t.dev ∧ u.wd = t.wd ∧ u.cfg = t.cfg ∧ u.inputs = t.inputs ∧
      u.out.status = t.out.status ∧ u.out.frameOut = t.out.frameOut ∧ u.out.wdTx = t.out.wdTx ∧ u.out.stale = t.out.stale

/-- 41_telemetry_decode.md R139 with R126: payload bytes p(3), p(10) to p(16) and bits 4, 6, 7 of p(2) change nothing, unless a parameter selects them. -/
def Obligations.UnreadPayloadIsIgnored : Prop :=
  ∀ (c : Cfg) (f g : Frame),
    (∀ k ∈ ([0, 1, 4, 5, 6, 7, 8, 9, c.timeHourOff, c.timeMinOff, c.productivityOff] : List (Fin 17)),
      f[k.val + 2] = g[k.val + 2]) →
    (∀ b ∈ [0, 1, 2, 3, 5], f[4].getLsbD b = g[4].getLsbD b) →
    f[c.presetsByte.val + 2].getLsbD c.presetsBit.val = g[c.presetsByte.val + 2].getLsbD c.presetsBit.val →
    decodePayload c f = decodePayload c g

/-- The model's choice (log entry 4): FRAME_TELEMETRY completes and ends in the state in which an RX of its 20 bytes ends. -/
def Obligations.TelemetryFrameRowIsAccepted : Prop :=
  ∀ (s : State) (f : Frame), s.cfg.wf → ∃ t, exec (.frameTelemetry f) s = .next t ∧ exec (.rx f.toList) s = .next t ∧
    t.dev = decodePayload s.cfg f ∧ t.wd.state = .armed ∧ t.wd.count.toNat = s.cfg.timeoutTicks ∧ t.inputs = s.inputs ∧
    t.out.status = .ok ∧ t.out.frameOut = none ∧ t.out.wdTx = none ∧ t.out.stale = false

/-- 41_telemetry_decode.md R128: the sign decoder gives the two's-complement value of every byte, in -128..127, and the s8 field holds the byte itself. -/
def Obligations.SignDecodeIsTwosComplement : Prop :=
  ∀ v : Byte,
    sdec8 v = (if v.toNat < 128 then (v.toNat : Int) else -(128 - ((v.toNat % 128 : Nat) : Int))) ∧
    sdec8 v = v.toInt ∧ -128 ≤ sdec8 v ∧ sdec8 v ≤ 127 ∧ s8 (sdec8 v) = v

/-- 41_telemetry_decode.md R130: fusion by cases, its symmetry, and for operands in -128..127 its range, the range of the sum and the 9-bit realization; then the values the rule lists. -/
def Obligations.FusionByCases : Prop :=
  (∀ a b : Int,
    fuse a b = ((if a ≤ 0 then b else a) + (if b ≤ 0 then a else b)) / 2 ∧
    (0 < a → 0 < b → fuse a b = (a + b) / 2) ∧ (a ≤ 0 → 0 < b → fuse a b = b) ∧
    (0 < a → b ≤ 0 → fuse a b = a) ∧ (a ≤ 0 → b ≤ 0 → fuse a b = (a + b) / 2) ∧
    fuse a b = fuse b a ∧
    (-128 ≤ a → a ≤ 127 → -128 ≤ b → b ≤ 127 →
      let sum := (if a ≤ 0 then b else a) + (if b ≤ 0 then a else b)
      sum ≤ 254 ∧ -256 ≤ sum ∧ fuse a b ≤ 127 ∧ -128 ≤ fuse a b ∧
      ((BitVec.ofInt 9 sum).sshiftRight 1).toInt = fuse a b)) ∧
  fuse 5 7 = 6 ∧ fuse 0 7 = 7 ∧ fuse 0 0 = 0 ∧ fuse (-3) 0 = -2 ∧ fuse (-1) 0 = -1 ∧
  fuse (-128) (-128) = -128 ∧ fuse 127 (-128) = 127 ∧ fuse 24 5 = 14

/-- 41_telemetry_decode.md R132, R133: the filter-day word is little-endian and its normalization keeps 1..360 and answers 1 for every other word. -/
def Obligations.FilterDaysNormalize : Prop :=
  (∀ lo hi : Byte, (word16 lo hi).toNat = lo.toNat + hi.toNat * 256) ∧
  (∀ v : BitVec 16, (normDays v).toNat = (if 1 ≤ v.toNat ∧ v.toNat ≤ 360 then v.toNat else 1) ∧
    1 ≤ (normDays v).toNat ∧ (normDays v).toNat ≤ 360)

/-- 41_telemetry_decode.md R143: the percentage function. -/
def Obligations.PercentageFunction : Prop :=
  (∀ d : Int, (d < 1 ∨ 360 < d → pct d = 1) ∧ (1 ≤ d → d ≤ 360 → pct d = d * 100 / 360) ∧
    0 ≤ pct d ∧ pct d ≤ 100) ∧
  pct 360 = 100 ∧ pct 0 = 1 ∧ pct 180 = 50 ∧ pct 1 = 0 ∧ pct 2 = 0 ∧ pct 3 = 0 ∧ pct 4 = 1 ∧ pct 359 = 99 ∧
  pct 361 = 1 ∧ pct 300 = 83

/-- 41_telemetry_decode.md R144, 10_state.md R43: the `pct` port shows the percentage of the filter-day field, the clamp branch never taken where the field is in 1..360; `W.count` shows on no port. -/
def Obligations.ReadPortsShowPercentage : Prop :=
  (∀ s : State, s.dev.daysInRange →
    s.readPorts.pct.toNat = s.dev.resourceFiltersDays.toNat * 100 / 360 ∧ s.readPorts.pct.toNat ≤ 100) ∧
  (∀ s : State, s.readPorts.dev = s.dev ∧ s.readPorts.wdState = s.wd.state ∧
    (s.readPorts.pct.toNat : Int) = pct (s.dev.resourceFiltersDays.toNat : Int)) ∧
  (∀ (s : State) (n : BitVec 14), ({ s with wd := ⟨s.wd.state, n⟩ } : State).readPorts = s.readPorts)

/-! ## Host writes -/

/-- 42_state_write.md R161, R162, R163: WR_FAN, WR_HTEMP and WR_MODE store all eight bits of `val`, unchecked, and change nothing else. -/
def Obligations.ByteWritesStoreValue : Prop :=
  ∀ (s : State) (val : Byte),
    exec (.wrFan val) s = .next { s with dev := { s.dev with fanSpeed := val }, out := Out.mk .ok false none none false } ∧
    exec (.wrHtemp val) s =
      .next { s with dev := { s.dev with heaterTemperature := val }, out := Out.mk .ok false none none false } ∧
    exec (.wrMode val) s =
      .next { s with dev := { s.dev with airIntakeMode := val }, out := Out.mk .ok false none none false } ∧
    ∀ inp : Input, inp.rst = false →
      (inp.ev.toNat = 0x00000003 + 256 * val.toNat → decodeInput inp = .wrFan val) ∧
      (inp.ev.toNat = 0x00010003 + 256 * val.toNat → decodeInput inp = .wrHtemp val) ∧
      (inp.ev.toNat = 0x00020003 + 256 * val.toNat → decodeInput inp = .wrMode val)

/-- 42_state_write.md R164, R165, R166: WR_HEATER, WR_POWER and WR_SOUND store bit 0 of `val` and change nothing else. -/
def Obligations.FlagWritesStoreLowBit : Prop :=
  ∀ (s : State) (val : Byte),
    exec (.wrHeater val) s =
      .next { s with dev := { s.dev with heaterOn := decide (val.toNat % 2 = 1) }, out := Out.mk .ok false none none false } ∧
    exec (.wrPower val) s =
      .next { s with dev := { s.dev with powerOn := decide (val.toNat % 2 = 1) }, out := Out.mk .ok false none none false } ∧
    exec (.wrSound val) s =
      .next { s with dev := { s.dev with soundOn := decide (val.toNat % 2 = 1) }, out := Out.mk .ok false none none false } ∧
    ∀ inp : Input, inp.rst = false →
      (inp.ev.toNat = 0x00030003 + 256 * val.toNat → decodeInput inp = .wrHeater val) ∧
      (inp.ev.toNat = 0x00040003 + 256 * val.toNat → decodeInput inp = .wrPower val) ∧
      (inp.ev.toNat = 0x00050003 + 256 * val.toNat → decodeInput inp = .wrSound val)

/-- 42_state_write.md R167: a WR with field select 6 or 7 gives BAD_FIELD and changes no register. -/
def Obligations.ReservedFieldIsRefused : Prop :=
  ∀ (s : State) (fsel : BitVec 3) (val : Byte), 6 ≤ fsel.toNat →
    exec (.wrReserved fsel val) s = .next { s with out := Out.mk (.badField fsel) false none none false } ∧
    (Status.badField fsel).code = 3 ∧
    ∀ inp : Input, inp.rst = false → inp.ev.toNat % 8 = 3 → inp.ev.toNat / 65536 % 8 = fsel.toNat →
      inp.ev.toNat / 256 % 256 = val.toNat → decodeInput inp = .wrReserved fsel val

/-- 42_state_write.md R160, R168: whatever its field select, a WR event completes, touches no watchdog register, emits no frame, and writes at most the field selected; the ten other fields have no select. -/
def Obligations.HostWriteFrame : Prop :=
  ∀ (s : State) (inp : Input), inp.rst = false → inp.ev.toNat % 8 = 3 →
    let fsel := inp.ev.toNat / 65536 % 8
    ∃ t, exec (decodeInput inp) s = .next t ∧ t.wd = s.wd ∧ t.inputs = s.inputs ∧
      t.out.frameOut = none ∧ t.out.wdTx = none ∧ t.out.stale = false ∧ t.out.envUnexpected = false ∧
      (t.out.status = .ok ↔ fsel ≤ 5) ∧
      (fsel ≠ 0 → t.dev.fanSpeed = s.dev.fanSpeed) ∧
      (fsel ≠ 1 → t.dev.heaterTemperature = s.dev.heaterTemperature) ∧
      (fsel ≠ 2 → t.dev.airIntakeMode = s.dev.airIntakeMode) ∧
      (fsel ≠ 3 → t.dev.heaterOn = s.dev.heaterOn) ∧
      (fsel ≠ 4 → t.dev.powerOn = s.dev.powerOn) ∧
      (fsel ≠ 5 → t.dev.soundOn = s.dev.soundOn) ∧
      t.dev.timerOn = s.dev.timerOn ∧ t.dev.magicAirConnected = s.dev.magicAirConnected ∧
      t.dev.presetsOn = s.dev.presetsOn ∧ t.dev.temperatureIn = s.dev.temperatureIn ∧
      t.dev.temperatureOut = s.dev.temperatureOut ∧ t.dev.resourceFiltersDays = s.dev.resourceFiltersDays ∧
      t.dev.errorCode = s.dev.errorCode ∧ t.dev.timeHour = s.dev.timeHour ∧ t.dev.timeMinute = s.dev.timeMinute ∧
      t.dev.productivity = s.dev.productivity

/-- 70_reset_and_hazards.md R215: under every configuration and for every field select, a SetState frame built after a host write shows the bank with that write and no other change, one built before shows the bank without it, and after an RX in between (R216) the frame shows what the telemetry said. The selects 6 and 7 write nothing, and the frames say so. -/
def Obligations.HostWriteReachesLaterFrame : Prop :=
  ∀ (s : State) (fsel : BitVec 3) (val : Byte) (data : List Byte) (rest : List Input), s.cfg.wf → data.length = 20 →
    let wr := eventInput (BitVec.ofNat 32 (3 + 256 * val.toNat + 65536 * fsel.toNat))
    let enc := eventInput 0x00000202#32
    let p := fun k : Nat => data.getD (k + 2) 0
    (∃ (t : State) (f : Frame), Host.Core.run core 2 { s with inputs := wr :: enc :: rest } = .next t ∧
      t.inputs = rest ∧ t.out.frameOut = some f ∧ showsHostWrite s.cfg f s.dev fsel val) ∧
    (∃ (t : State) (f : Frame), step { s with inputs := enc :: wr :: rest } = .next t ∧
      t.out.frameOut = some f ∧ showsSettable s.cfg f s.dev.fanSpeed s.dev.heaterTemperature s.dev.airIntakeMode
        s.dev.heaterOn s.dev.powerOn s.dev.soundOn) ∧
    (∃ (t : State) (f : Frame), Host.Core.run core 3 { s with inputs := wr :: rxInput data :: enc :: rest } = .next t ∧
      t.inputs = rest ∧ t.out.frameOut = some f ∧ showsSettable s.cfg f
        (BitVec.ofNat 8 ((p 0).toNat % 16)) (p 1) (BitVec.ofNat 8 ((p 0).toNat / 16))
        ((p 2).toNat.testBit 0) ((p 2).toNat.testBit 1) ((p 2).toNat.testBit 3))

/-! ## Watchdog -/

/-- 43_watchdog.md R172: any number of TICKs in Idle change no register and put out nothing. -/
def Obligations.TicksInIdleDoNothing : Prop :=
  ∀ s : State, s.wd.state = .idle →
    exec .tick s = .next { s with out := Out.mk .ok false none none false } ∧
    ∀ (n : Nat) (rest : List Input), 1 ≤ n →
      Host.Core.run core n { s with inputs := List.replicate n (eventInput 0x00000004#32) ++ rest } =
        .next { s with inputs := rest, out := Out.mk .ok false none none false } ∧
      fireCount (outputs n { s with inputs := List.replicate n (eventInput 0x00000004#32) ++ rest }) = 0

/-- 43_watchdog.md R173: a TICK in Armed with a count above 1 takes one from the count and does nothing else. -/
def Obligations.TickCountsDown : Prop :=
  ∀ s : State, s.wd.state = .armed → 1 < s.wd.count.toNat →
    ∃ n : BitVec 14, n.toNat + 1 = s.wd.count.toNat ∧
      exec .tick s = .next { s with wd := ⟨.armed, n⟩, out := Out.mk .ok false none none false }

/-- 43_watchdog.md R174: a TICK in Armed with count 1 puts out `reqFrame` and the stale pulse and leaves the watchdog Idle with count 0. -/
def Obligations.TickFiresAtOne : Prop :=
  ∀ s : State, s.wd.state = .armed → s.wd.count.toNat = 1 →
    ∃ f : Frame, f.toList = [0x3D, 0x01, 0, 0, 0, 0, 0, 0, 0, 0, 0, 0, 0, 0, 0, 0, 0, 0, 0, 0x5A] ∧
      exec .tick s = .next { s with wd := ⟨.idle, 0⟩, out := Out.mk .ok false none (some f) true }

/-- The model's choice (log entry 8): TICK stops exactly at Armed with count 0, which 10_state.md R41 rules out. -/
def Obligations.TickStopsOnlyOutsideRange : Prop :=
  ∀ s : State,
    (exec .tick s = .fault .watchdogCountZero ↔ s.wd.state = .armed ∧ s.wd.count.toNat = 0) ∧
    (¬ (s.wd.state = .armed ∧ s.wd.count.toNat = 0) → ∃ t, exec .tick s = .next t)

/-- 43_watchdog.md R171: a status-OK RX loads the full timeout and arms, in any state, and never fires; an INVALID_LENGTH RX leaves both watchdog registers. -/
def Obligations.OnlyDecodedFramesRearm : Prop :=
  ∀ (s : State) (data : List Byte), s.cfg.wf → ∃ t, exec (.rx data) s = .next t ∧ t.out.wdTx = none ∧ t.out.stale = false ∧
    (data.length = 20 → t.wd.state = .armed ∧ t.wd.count.toNat = s.cfg.timeoutTicks) ∧ (data.length ≠ 20 → t.wd = s.wd)

/-- 00_scope.md R11: the default timeout, and for every configuration R9 and R11 allow the count loaded is `TIMEOUT_TICKS` whole, which is `TIMEOUT_MS` ms of TICKs exactly where `TICK_MS` divides it. Where it does not, that the quotient is rounded down is the model's choice (log entry 16). -/
def Obligations.TimeoutFitsTheCounter : Prop :=
  (∀ c : Cfg, c.wf → (Watchdog.armed c).count.toNat = c.timeoutMs / c.tickMs ∧ (Watchdog.armed c).inRange c ∧
    ((Watchdog.armed c).count.toNat * c.tickMs = c.timeoutMs ↔ c.tickMs ∣ c.timeoutMs)) ∧
  Config.cfg.wf ∧ Config.cfg.timeoutMs = 10000 ∧ Config.cfg.tickMs = 1 ∧ Config.cfg.timeoutTicks = 10000

/-- 43_watchdog.md R177, 70_reset_and_hazards.md R212: teardown cancels the timer and restores the bank, with no frame, and leaves the state reset leaves, under every configuration. -/
def Obligations.TeardownRestoresReset : Prop :=
  ∀ s : State,
    exec .tdn s = .next { State.resetUnder s.cfg with inputs := s.inputs } ∧ exec .rst s = exec .tdn s ∧
    ∀ inp : Input, inp.rst = false → inp.ev.toNat % 8 = 5 → decodeInput inp = .tdn

/-- 30_encoding.md R73, 70_reset_and_hazards.md R210: with `rst` = 1 a step ignores the event word and the data channel and sets every register to its reset value, outputs idle. -/
def Obligations.ResetPinOverridesEvent : Prop :=
  ∀ (s : State) (ev : BitVec 32) (data : List Byte) (rest : List Input),
    exec .rst s = .next ⟨⟨s.cfg.fanSpeedMin, 0, false, false, false, false, false, false, 0, 0, 0, 360, 0, 0, 0, 0⟩, ⟨.idle, 0⟩,
      Out.mk .ok false none none false, s.inputs, s.cfg⟩ ∧
    (s.inputs = ⟨true, ev, data⟩ :: rest → step s = exec .rst { s with inputs := rest })

/-- 70_reset_and_hazards.md R210 with 10_state.md R24 to R40: the value of every register after reset, for every configuration and for the default one that State.reset holds (the model's choice, log entry 6). -/
def Obligations.ResetValues : Prop :=
  (∀ c : Cfg, (State.resetUnder c).dev = ⟨c.fanSpeedMin, 0, false, false, false, false, false, false, 0, 0, 0, 360, 0, 0, 0, 0⟩ ∧
    (State.resetUnder c).wd = ⟨.idle, 0⟩ ∧ (State.resetUnder c).out = Out.mk .ok false none none false ∧
    (State.resetUnder c).cfg = c) ∧
  State.reset = State.resetUnder Config.cfg ∧
  State.reset.dev = ⟨1, 0, false, false, false, false, false, false, 0, 0, 0, 360, 0, 0, 0, 0⟩

/-- 43_watchdog.md R178: NOP changes no register and puts out nothing. -/
def Obligations.NopDoesNothing : Prop :=
  (∀ inp : Input, inp.rst = false → inp.ev.toNat % 8 = 0 → decodeInput inp = .nop) ∧
  ∀ s : State, exec .nop s = .next { s with out := Out.mk .ok false none none false }

/-- 43_watchdog.md R179: a reserved event kind gives BAD_EVENT and changes no register. -/
def Obligations.ReservedKindIsRefused : Prop :=
  ∀ (s : State) (kind : BitVec 3), 6 ≤ kind.toNat →
    exec (.reservedEvent kind) s = .next { s with out := Out.mk (.badEvent kind) false none none false } ∧
    (Status.badEvent kind).code = 4 ∧
    ∀ inp : Input, inp.rst = false → inp.ev.toNat % 8 = kind.toNat → decodeInput inp = .reservedEvent kind

/-- 43_watchdog.md R180: the transition table, for every event from every state R41 allows, under every configuration R11 allows. -/
def Obligations.WatchdogTransitionTable : Prop :=
  ∀ (s : State) (inp : Input), s.cfg.wf → s.wd.inRange s.cfg →
    let kind := inp.ev.toNat % 8
    ∃ t, exec (decodeInput inp) s = .next t ∧
      (t.wd.state, t.wd.count.toNat) =
        (if inp.rst = true then (.idle, 0)
         else if kind = 1 ∧ inp.rx.length = 20 then (.armed, s.cfg.timeoutTicks)
         else if kind = 4 ∧ s.wd.state = .armed ∧ s.wd.count.toNat = 1 then (.idle, 0)
         else if kind = 4 ∧ s.wd.state = .armed then (.armed, s.wd.count.toNat - 1)
         else if kind = 5 then (.idle, 0)
         else (s.wd.state, s.wd.count.toNat)) ∧
      (t.out.stale = true ↔ inp.rst = false ∧ kind = 4 ∧ s.wd.state = .armed ∧ s.wd.count.toNat = 1) ∧
      (t.out.wdTx ≠ none ↔ t.out.stale = true)

/-- 43_watchdog.md R171, R173, R174, R176: from Armed with count n, n TICKs in a row fire on the n-th and on no earlier one, for every n the counter can hold, and the registers at every TICK between. -/
def Obligations.TimerFiresOnItsLastTick : Prop :=
  ∀ (s : State) (rest : List Input), s.wd.state = .armed → 1 ≤ s.wd.count.toNat →
    s.inputs = List.replicate s.wd.count.toNat tickInput ++ rest →
    (∀ k, k < s.wd.count.toNat → ∃ t, Host.Core.run core k s = .next t ∧ t.dev = s.dev ∧
      t.wd.state = .armed ∧ t.wd.count.toNat = s.wd.count.toNat - k ∧ (1 ≤ k → t.out = Out.idle)) ∧
    ∃ t, Host.Core.run core s.wd.count.toNat s = .next t ∧ t.dev = s.dev ∧ t.wd = ⟨.idle, 0⟩ ∧
      t.out = Out.mk .ok false none (some reqFrame) true ∧ t.inputs = rest

/-- 43_watchdog.md R181, R182: from Armed, through any events that neither re-arm nor cancel, no step stops and the watchdog fires exactly once if at least `W.count` TICKs are among them, else not at all; after that, or from Idle, no events without a status-OK RX make it fire. -/
def Obligations.OneFirePerArmCycle : Prop :=
  ∀ (s : State) (qs rest : List Input), s.inv → s.inputs = qs ++ rest →
    (s.wd.state = .armed → (∀ q ∈ qs, cancels q = false) →
      (outputs qs.length s).length = qs.length ∧
      fireCount (outputs qs.length s) = if s.wd.count.toNat ≤ qs.countP isTick then 1 else 0) ∧
    (s.wd.state = .idle → (∀ q ∈ qs, arms q = false) →
      (outputs qs.length s).length = qs.length ∧ fireCount (outputs qs.length s) = 0)

/-- 43_watchdog.md R183, for every timeout of n ticks R11 allows (10,000 by default) and with the second frame after any j < n ticks instead of 5000: the re-armed timer fires on the TICK n ticks after the second frame and on no other step of the run. -/
def Obligations.SecondFrameRestartsTimer : Prop :=
  Config.cfg.wf ∧ Config.cfg.timeoutTicks = 10000 ∧
  ∀ (s : State) (data data' : List Byte) (j n : Nat) (rest : List Input), s.cfg.wf → s.cfg.timeoutTicks = n →
    data.length = 20 → data'.length = 20 → j < n →
    s.inputs = rxInput data :: (List.replicate j tickInput ++
      rxInput data' :: (List.replicate n tickInput ++ rest)) →
    (outputs (j + n + 2) s).length = j + n + 2 ∧
    ∀ k o, (outputs (j + n + 2) s)[k]? = some o → (o.stale = true ↔ k = j + n + 1)

/-- 60_exceptions.md R196, for the model's form of a cycle (DESIGN CHOICE, log entry 13: at most one occurrence of each kind, the WR and ENC operands as the event word carries them): the events of one cycle in their order, `rst` and then TDN suppressing the rest; a TICK that fires in the cycle of a telemetry frame fires before the frame re-arms; a SetState frame built in a cycle shows the cycle's write, whatever its field select. -/
def Obligations.StrobesSerializeInOrder : Prop :=
  (∀ c : Strobes, c.serialize.map decodeInput =
    if c.rst = true then [.rst] else if c.tdn = true then [.tdn]
    else (if c.tick = true then [.tick] else []) ++ c.rx.toList.map .rx ++
      c.wr.toList.map (fun p => decodeWr p.1 p.2) ++ c.enc.toList.map decodeEnc) ∧
  (∀ (s : State) (data : List Byte), s.cfg.wf → s.wd = ⟨.armed, 1⟩ → s.inputs = [] → data.length = 20 →
    ∃ t, Host.Core.run core 2 (s.presentCycle ⟨false, false, true, some data, none, none⟩) = .next t ∧
      t.wd.state = .armed ∧ t.wd.count.toNat = s.cfg.timeoutTicks ∧
      (outputs 2 (s.presentCycle ⟨false, false, true, some data, none, none⟩)).map (·.stale) = [true, false]) ∧
  (∀ (s : State) (fsel : BitVec 3) (val : Byte), s.cfg.wf → s.inputs = [] →
    ∃ (t : State) (f : Frame),
      Host.Core.run core 2 (s.presentCycle ⟨false, false, false, none, some (fsel, val), some 0x02⟩) = .next t ∧
      t.inputs = [] ∧ t.out.frameOut = some f ∧ showsHostWrite s.cfg f s.dev fsel val)

/-! ## The whole machine -/

/-- 00_scope.md R9 and R11, 10_state.md R35, R41 and the output rules (60_exceptions.md R190, R192; 10_state.md R42): the invariant is kept by every step, from every state that meets it. -/
def Obligations.InvariantIsKept : Prop :=
  ∀ s t : State, s.inv → step s = .next t → t.inv

/-- The reset state meets the invariant. -/
def Obligations.InvariantAtReset : Prop := State.reset.inv

/-- 60_exceptions.md R190: the block never traps. From every state that meets the invariant every event is taken: exec answers a next state for every instruction, and a step answers one whenever an event is presented. -/
def Obligations.NoEventEverTraps : Prop :=
  ∀ s : State, s.inv →
    (∀ i : Instr, ∃ t, exec i s = .next t) ∧
    (∀ inp rest, s.inputs = inp :: rest → ∃ t, step s = .next t ∧ t.inputs = rest)

/-- 60_exceptions.md R190: a step that ends with a non-OK status leaves every register as it was and puts out no frame. -/
def Obligations.ErrorsChangeNothing : Prop :=
  ∀ (s t : State), step s = .next t → t.out.status ≠ .ok →
    t.dev = s.dev ∧ t.wd = s.wd ∧ t.inputs = s.inputs.tail ∧
    t.out.frameOut = none ∧ t.out.wdTx = none ∧ t.out.stale = false ∧ t.out.envUnexpected = false

/-- 60_exceptions.md R191, R194: the status code of every event, by the order of the checks, `rst` overriding all. -/
def Obligations.StatusByCheckOrder : Prop :=
  ∀ (s : State) (inp : Input), s.wd.inRange s.cfg →
    let kind := inp.ev.toNat % 8
    let op := inp.ev.toNat / 256 % 256
    let fsel := inp.ev.toNat / 65536 % 8
    ∃ t, exec (decodeInput inp) s = .next t ∧
      t.out.status.code.toNat =
        (if inp.rst = true then 0
         else if kind = 6 ∨ kind = 7 then 4
         else if kind = 1 ∧ inp.rx.length ≠ 20 then 1
         else if kind = 2 ∧ op ≠ 0x01 ∧ op ≠ 0x02 ∧ op ≠ 0x05 then 2
         else if kind = 3 ∧ (fsel = 6 ∨ fsel = 7) then 3
         else 0)

/-- 10_state.md R42: `frame_out` comes only with an ENC event of a supported opcode, whose opcode is the frame's byte 1; `wd_tx` and `stale` only with a TICK at Armed and count 1. -/
def Obligations.FramesComeOnlyFromTheirEvents : Prop :=
  ∀ (s t : State) (inp : Input) (rest : List Input), s.cfg.wf → s.inputs = inp :: rest → step s = .next t →
    (∀ f, t.out.frameOut = some f → inp.rst = false ∧ inp.ev.toNat % 8 = 2 ∧
      inp.ev.toNat / 256 % 256 = f[1].toNat ∧ f[1].toNat ∈ [0x01, 0x02, 0x05]) ∧
    (t.out.wdTx ≠ none ∨ t.out.stale = true → inp.rst = false ∧ inp.ev.toNat % 8 = 4 ∧
      s.wd.state = .armed ∧ s.wd.count.toNat = 1)

/-- 10_state.md R22: no event reads the output record of an earlier step. -/
def Obligations.OutputRecordIsNeverRead : Prop :=
  ∀ (i : Instr) (s : State) (o : Out), exec i { s with out := o } = exec i s

/-- 42_state_write.md R168: an event that is neither RX, TDN nor reset leaves the ten telemetry-owned fields; one that is none of RX, WR, TDN, reset leaves the whole bank (10_state.md R23). -/
def Obligations.BankIsWrittenOnlyByItsWriters : Prop :=
  ∀ (s t : State) (inp : Input) (rest : List Input), s.inputs = inp :: rest → step s = .next t → inp.rst = false →
    (inp.ev.toNat % 8 ≠ 1 → inp.ev.toNat % 8 ≠ 5 →
      t.dev.timerOn = s.dev.timerOn ∧ t.dev.magicAirConnected = s.dev.magicAirConnected ∧
      t.dev.presetsOn = s.dev.presetsOn ∧ t.dev.temperatureIn = s.dev.temperatureIn ∧
      t.dev.temperatureOut = s.dev.temperatureOut ∧ t.dev.resourceFiltersDays = s.dev.resourceFiltersDays ∧
      t.dev.errorCode = s.dev.errorCode ∧ t.dev.timeHour = s.dev.timeHour ∧ t.dev.timeMinute = s.dev.timeMinute ∧
      t.dev.productivity = s.dev.productivity) ∧
    (inp.ev.toNat % 8 ≠ 1 → inp.ev.toNat % 8 ≠ 3 → inp.ev.toNat % 8 ≠ 5 → t.dev = s.dev)

/-! ## The configuration -/

/-- 00_scope.md R18: the step takes the configuration as an argument. For every configuration, state and event, one step in R18's shape runs exactly the event's instruction on the same registers under that configuration, and keeps the configuration and what is presented later. The configuration stands in the state (the model's choice, log entry 6). -/
def Obligations.StepTakesConfiguration : Prop :=
  ∀ (c : Cfg) (s : State) (inp : Input),
    stepUnder c s inp = exec (decodeInput inp) { s with cfg := c } ∧
    ∀ t, stepUnder c s inp = .next t → t.cfg = c ∧ t.inputs = s.inputs

/-- 10_state.md R45: no event writes the configuration, and it is the same for the whole run, from every state. That it is a field of the state is the model's choice (log entry 6). -/
def Obligations.ConfigurationIsConstant : Prop :=
  (∀ (i : Instr) (s t : State), exec i s = .next t → t.cfg = s.cfg) ∧
  ∀ (n : Nat) (s t : State), Host.Core.run core n s = .next t → t.cfg = s.cfg
end

