-- ==== Sys2Proof/Laws/Decode.lean ====
section
/-! SUPPORT. The event word's fields as numbers, and the two sub-decoders and word builders in those terms. -/

namespace Sys2Proof

/-- `kind` is the word modulo 8. -/
theorem evKind_toNat (ev : BitVec 32) : (evKind ev).toNat = ev.toNat % 8 := by
  simp [evKind, BitVec.extractLsb'_toNat]

/-- `op` is the word's second byte. -/
theorem evOp_toNat (ev : BitVec 32) : (evOp ev).toNat = ev.toNat / 256 % 256 := by
  simp [evOp, BitVec.extractLsb'_toNat, Nat.shiftRight_eq_div_pow]

/-- `val` is the word's second byte. -/
theorem evVal_toNat (ev : BitVec 32) : (evVal ev).toNat = ev.toNat / 256 % 256 := evOp_toNat ev

/-- `fsel` is bits 18..16 of the word. -/
theorem evFsel_toNat (ev : BitVec 32) : (evFsel ev).toNat = ev.toNat / 65536 % 8 := by
  simp [evFsel, BitVec.extractLsb'_toNat, Nat.shiftRight_eq_div_pow]

/-- A bit vector is the one of its number. -/
theorem eq_ofNat_of_toNat {w n : Nat} {x : BitVec w} (h : x.toNat = n) : x = BitVec.ofNat w n := by
  subst h; simp

/-- The ENC rows by the opcode's number. -/
theorem decodeEnc_eq (op : Byte) : decodeEnc op =
    if op.toNat = 1 then .encRequestState else if op.toNat = 2 then .encSetState
    else if op.toNat = 5 then .encPair else .encUnsupported op := by
  have h : ∀ op : Byte, (op = opcRequestState ↔ op.toNat = 1) ∧ (op = opcSetState ↔ op.toNat = 2) ∧
      (op = opcPair ↔ op.toNat = 5) := by decide
  simp only [decodeEnc, (h op).1, (h op).2.1, (h op).2.2]

/-- The WR rows by the field select's number. -/
theorem decodeWr_eq (fsel : BitVec 3) (val : Byte) : decodeWr fsel val =
    if fsel.toNat = 0 then .wrFan val else if fsel.toNat = 1 then .wrHtemp val
    else if fsel.toNat = 2 then .wrMode val else if fsel.toNat = 3 then .wrHeater val
    else if fsel.toNat = 4 then .wrPower val else if fsel.toNat = 5 then .wrSound val
    else .wrReserved fsel val := by
  unfold decodeWr
  split <;> simp_all

/-- `0x00000002 | op << 8` as a number. -/
theorem encWord_toNat (op : Byte) : (encWord op).toNat = 2 + 256 * op.toNat := by
  have : ∀ op : Byte, (encWord op).toNat = 2 + 256 * op.toNat := by decide
  exact this op

/-- `0x00000003 | val << 8 | fsel << 16` as a number. -/
theorem wrWord_toNat (fsel : BitVec 3) (val : Byte) :
    (wrWord fsel val).toNat = 3 + 256 * val.toNat + 65536 * fsel.toNat := by
  have low : ∀ v : Byte, (0x00000003#32 ||| (v.setWidth 32 <<< 8)).toNat = 3 + 256 * v.toNat := by decide
  have high : (fsel.setWidth 32 <<< 16 : BitVec 32).toNat = fsel.toNat <<< 16 := by
    have := fsel.isLt
    simp [BitVec.toNat_shiftLeft, Nat.shiftLeft_eq]
    omega
  have := val.isLt
  rw [wrWord, BitVec.toNat_or, low, high, Nat.or_comm, ← Nat.shiftLeft_add_eq_or_of_lt (by omega), Nat.shiftLeft_eq]
  omega

end Sys2Proof
end

