-- ==== Sys2Proof/Laws/State.lean ====
section
/-! SUPPORT. One lemma per field per update of the state, true by rfl, so that no later proof unfolds a record update. -/

namespace Sys2Proof.Machine

section StateUpdates
variable (s : State)

@[simp] theorem State.withDev_dev (d : DeviceState) : (s.withDev d).dev = d := rfl
@[simp] theorem State.withDev_wd (d : DeviceState) : (s.withDev d).wd = s.wd := rfl
@[simp] theorem State.withDev_out (d : DeviceState) : (s.withDev d).out = s.out := rfl
@[simp] theorem State.withDev_inputs (d : DeviceState) : (s.withDev d).inputs = s.inputs := rfl
@[simp] theorem State.withWd_dev (w : Watchdog) : (s.withWd w).dev = s.dev := rfl
@[simp] theorem State.withWd_wd (w : Watchdog) : (s.withWd w).wd = w := rfl
@[simp] theorem State.withWd_out (w : Watchdog) : (s.withWd w).out = s.out := rfl
@[simp] theorem State.withWd_inputs (w : Watchdog) : (s.withWd w).inputs = s.inputs := rfl
@[simp] theorem State.withOut_dev (o : Out) : (s.withOut o).dev = s.dev := rfl
@[simp] theorem State.withOut_wd (o : Out) : (s.withOut o).wd = s.wd := rfl
@[simp] theorem State.withOut_out (o : Out) : (s.withOut o).out = o := rfl
@[simp] theorem State.withOut_inputs (o : Out) : (s.withOut o).inputs = s.inputs := rfl
@[simp] theorem State.withInputs_dev (q : List Input) : (s.withInputs q).dev = s.dev := rfl
@[simp] theorem State.withInputs_wd (q : List Input) : (s.withInputs q).wd = s.wd := rfl
@[simp] theorem State.withInputs_out (q : List Input) : (s.withInputs q).out = s.out := rfl
@[simp] theorem State.withInputs_inputs (q : List Input) : (s.withInputs q).inputs = q := rfl
@[simp] theorem State.raise_dev (st : Status) : (s.raise st).dev = s.dev := rfl
@[simp] theorem State.raise_wd (st : Status) : (s.raise st).wd = s.wd := rfl
@[simp] theorem State.raise_out (st : Status) : (s.raise st).out = { Out.idle with status := st } := rfl
@[simp] theorem State.raise_inputs (st : Status) : (s.raise st).inputs = s.inputs := rfl
@[simp] theorem State.emitFrame_dev (f : Frame) : (s.emitFrame f).dev = s.dev := rfl
@[simp] theorem State.emitFrame_wd (f : Frame) : (s.emitFrame f).wd = s.wd := rfl
@[simp] theorem State.emitFrame_out (f : Frame) : (s.emitFrame f).out = { Out.idle with frameOut := some f } := rfl
@[simp] theorem State.emitFrame_inputs (f : Frame) : (s.emitFrame f).inputs = s.inputs := rfl
@[simp] theorem State.quiet_dev : s.quiet.dev = s.dev := rfl
@[simp] theorem State.quiet_wd : s.quiet.wd = s.wd := rfl
@[simp] theorem State.quiet_out : s.quiet.out = Out.idle := rfl
@[simp] theorem State.quiet_inputs : s.quiet.inputs = s.inputs := rfl
@[simp] theorem State.hostWrite_dev (d : DeviceState) : (s.hostWrite d).dev = d := rfl
@[simp] theorem State.hostWrite_wd (d : DeviceState) : (s.hostWrite d).wd = s.wd := rfl
@[simp] theorem State.hostWrite_out (d : DeviceState) : (s.hostWrite d).out = Out.idle := rfl
@[simp] theorem State.hostWrite_inputs (d : DeviceState) : (s.hostWrite d).inputs = s.inputs := rfl
@[simp] theorem State.acceptTelemetry_dev (f : Frame) : (s.acceptTelemetry f).dev = decodePayload s.cfg f := rfl
@[simp] theorem State.acceptTelemetry_wd (f : Frame) : (s.acceptTelemetry f).wd = Watchdog.armed s.cfg := rfl
@[simp] theorem State.acceptTelemetry_out (f : Frame) : (s.acceptTelemetry f).out = { Out.idle with envUnexpected := envelopeUnexpected s.cfg f } := rfl
@[simp] theorem State.acceptTelemetry_inputs (f : Frame) : (s.acceptTelemetry f).inputs = s.inputs := rfl
@[simp] theorem State.restore_dev : s.restore.dev = DeviceState.initial s.cfg := rfl
@[simp] theorem State.restore_wd : s.restore.wd = Watchdog.initial := rfl
@[simp] theorem State.restore_out : s.restore.out = Out.idle := rfl
@[simp] theorem State.restore_inputs : s.restore.inputs = s.inputs := rfl
@[simp] theorem State.withCfg_dev (c : Cfg) : (s.withCfg c).dev = s.dev := rfl
@[simp] theorem State.withCfg_wd (c : Cfg) : (s.withCfg c).wd = s.wd := rfl
@[simp] theorem State.withCfg_out (c : Cfg) : (s.withCfg c).out = s.out := rfl
@[simp] theorem State.withCfg_inputs (c : Cfg) : (s.withCfg c).inputs = s.inputs := rfl
@[simp] theorem State.withCfg_cfg (c : Cfg) : (s.withCfg c).cfg = c := rfl
@[simp] theorem State.withDev_cfg (d : DeviceState) : (s.withDev d).cfg = s.cfg := rfl
@[simp] theorem State.withWd_cfg (w : Watchdog) : (s.withWd w).cfg = s.cfg := rfl
@[simp] theorem State.withOut_cfg (o : Out) : (s.withOut o).cfg = s.cfg := rfl
@[simp] theorem State.withInputs_cfg (q : List Input) : (s.withInputs q).cfg = s.cfg := rfl
@[simp] theorem State.raise_cfg (st : Status) : (s.raise st).cfg = s.cfg := rfl
@[simp] theorem State.emitFrame_cfg (f : Frame) : (s.emitFrame f).cfg = s.cfg := rfl
@[simp] theorem State.quiet_cfg : s.quiet.cfg = s.cfg := rfl
@[simp] theorem State.hostWrite_cfg (d : DeviceState) : (s.hostWrite d).cfg = s.cfg := rfl
@[simp] theorem State.acceptTelemetry_cfg (f : Frame) : (s.acceptTelemetry f).cfg = s.cfg := rfl
@[simp] theorem State.restore_cfg : s.restore.cfg = s.cfg := rfl

end StateUpdates

section Reset
variable (c : Cfg)

@[simp] theorem State.resetUnder_dev : (State.resetUnder c).dev = DeviceState.initial c := rfl
@[simp] theorem State.resetUnder_wd : (State.resetUnder c).wd = Watchdog.initial := rfl
@[simp] theorem State.resetUnder_out : (State.resetUnder c).out = Out.idle := rfl
@[simp] theorem State.resetUnder_inputs : (State.resetUnder c).inputs = [] := rfl
@[simp] theorem State.resetUnder_cfg : (State.resetUnder c).cfg = c := rfl

end Reset

section BankUpdates
variable (d : DeviceState)

@[simp] theorem DeviceState.setFanSpeed_fanSpeed (v : Byte) : (d.setFanSpeed v).fanSpeed = v := rfl
@[simp] theorem DeviceState.setFanSpeed_airIntakeMode (v : Byte) : (d.setFanSpeed v).airIntakeMode = d.airIntakeMode := rfl
@[simp] theorem DeviceState.setFanSpeed_heaterOn (v : Byte) : (d.setFanSpeed v).heaterOn = d.heaterOn := rfl
@[simp] theorem DeviceState.setFanSpeed_powerOn (v : Byte) : (d.setFanSpeed v).powerOn = d.powerOn := rfl
@[simp] theorem DeviceState.setFanSpeed_timerOn (v : Byte) : (d.setFanSpeed v).timerOn = d.timerOn := rfl
@[simp] theorem DeviceState.setFanSpeed_soundOn (v : Byte) : (d.setFanSpeed v).soundOn = d.soundOn := rfl
@[simp] theorem DeviceState.setFanSpeed_magicAirConnected (v : Byte) : (d.setFanSpeed v).magicAirConnected = d.magicAirConnected := rfl
@[simp] theorem DeviceState.setFanSpeed_presetsOn (v : Byte) : (d.setFanSpeed v).presetsOn = d.presetsOn := rfl
@[simp] theorem DeviceState.setFanSpeed_heaterTemperature (v : Byte) : (d.setFanSpeed v).heaterTemperature = d.heaterTemperature := rfl
@[simp] theorem DeviceState.setFanSpeed_temperatureIn (v : Byte) : (d.setFanSpeed v).temperatureIn = d.temperatureIn := rfl
@[simp] theorem DeviceState.setFanSpeed_temperatureOut (v : Byte) : (d.setFanSpeed v).temperatureOut = d.temperatureOut := rfl
@[simp] theorem DeviceState.setFanSpeed_resourceFiltersDays (v : Byte) : (d.setFanSpeed v).resourceFiltersDays = d.resourceFiltersDays := rfl
@[simp] theorem DeviceState.setFanSpeed_errorCode (v : Byte) : (d.setFanSpeed v).errorCode = d.errorCode := rfl
@[simp] theorem DeviceState.setFanSpeed_timeHour (v : Byte) : (d.setFanSpeed v).timeHour = d.timeHour := rfl
@[simp] theorem DeviceState.setFanSpeed_timeMinute (v : Byte) : (d.setFanSpeed v).timeMinute = d.timeMinute := rfl
@[simp] theorem DeviceState.setFanSpeed_productivity (v : Byte) : (d.setFanSpeed v).productivity = d.productivity := rfl
@[simp] theorem DeviceState.setHeaterTemperature_fanSpeed (v : Byte) : (d.setHeaterTemperature v).fanSpeed = d.fanSpeed := rfl
@[simp] theorem DeviceState.setHeaterTemperature_airIntakeMode (v : Byte) : (d.setHeaterTemperature v).airIntakeMode = d.airIntakeMode := rfl
@[simp] theorem DeviceState.setHeaterTemperature_heaterOn (v : Byte) : (d.setHeaterTemperature v).heaterOn = d.heaterOn := rfl
@[simp] theorem DeviceState.setHeaterTemperature_powerOn (v : Byte) : (d.setHeaterTemperature v).powerOn = d.powerOn := rfl
@[simp] theorem DeviceState.setHeaterTemperature_timerOn (v : Byte) : (d.setHeaterTemperature v).timerOn = d.timerOn := rfl
@[simp] theorem DeviceState.setHeaterTemperature_soundOn (v : Byte) : (d.setHeaterTemperature v).soundOn = d.soundOn := rfl
@[simp] theorem DeviceState.setHeaterTemperature_magicAirConnected (v : Byte) : (d.setHeaterTemperature v).magicAirConnected = d.magicAirConnected := rfl
@[simp] theorem DeviceState.setHeaterTemperature_presetsOn (v : Byte) : (d.setHeaterTemperature v).presetsOn = d.presetsOn := rfl
@[simp] theorem DeviceState.setHeaterTemperature_heaterTemperature (v : Byte) : (d.setHeaterTemperature v).heaterTemperature = v := rfl
@[simp] theorem DeviceState.setHeaterTemperature_temperatureIn (v : Byte) : (d.setHeaterTemperature v).temperatureIn = d.temperatureIn := rfl
@[simp] theorem DeviceState.setHeaterTemperature_temperatureOut (v : Byte) : (d.setHeaterTemperature v).temperatureOut = d.temperatureOut := rfl
@[simp] theorem DeviceState.setHeaterTemperature_resourceFiltersDays (v : Byte) : (d.setHeaterTemperature v).resourceFiltersDays = d.resourceFiltersDays := rfl
@[simp] theorem DeviceState.setHeaterTemperature_errorCode (v : Byte) : (d.setHeaterTemperature v).errorCode = d.errorCode := rfl
@[simp] theorem DeviceState.setHeaterTemperature_timeHour (v : Byte) : (d.setHeaterTemperature v).timeHour = d.timeHour := rfl
@[simp] theorem DeviceState.setHeaterTemperature_timeMinute (v : Byte) : (d.setHeaterTemperature v).timeMinute = d.timeMinute := rfl
@[simp] theorem DeviceState.setHeaterTemperature_productivity (v : Byte) : (d.setHeaterTemperature v).productivity = d.productivity := rfl
@[simp] theorem DeviceState.setAirIntakeMode_fanSpeed (v : Byte) : (d.setAirIntakeMode v).fanSpeed = d.fanSpeed := rfl
@[simp] theorem DeviceState.setAirIntakeMode_airIntakeMode (v : Byte) : (d.setAirIntakeMode v).airIntakeMode = v := rfl
@[simp] theorem DeviceState.setAirIntakeMode_heaterOn (v : Byte) : (d.setAirIntakeMode v).heaterOn = d.heaterOn := rfl
@[simp] theorem DeviceState.setAirIntakeMode_powerOn (v : Byte) : (d.setAirIntakeMode v).powerOn = d.powerOn := rfl
@[simp] theorem DeviceState.setAirIntakeMode_timerOn (v : Byte) : (d.setAirIntakeMode v).timerOn = d.timerOn := rfl
@[simp] theorem DeviceState.setAirIntakeMode_soundOn (v : Byte) : (d.setAirIntakeMode v).soundOn = d.soundOn := rfl
@[simp] theorem DeviceState.setAirIntakeMode_magicAirConnected (v : Byte) : (d.setAirIntakeMode v).magicAirConnected = d.magicAirConnected := rfl
@[simp] theorem DeviceState.setAirIntakeMode_presetsOn (v : Byte) : (d.setAirIntakeMode v).presetsOn = d.presetsOn := rfl
@[simp] theorem DeviceState.setAirIntakeMode_heaterTemperature (v : Byte) : (d.setAirIntakeMode v).heaterTemperature = d.heaterTemperature := rfl
@[simp] theorem DeviceState.setAirIntakeMode_temperatureIn (v : Byte) : (d.setAirIntakeMode v).temperatureIn = d.temperatureIn := rfl
@[simp] theorem DeviceState.setAirIntakeMode_temperatureOut (v : Byte) : (d.setAirIntakeMode v).temperatureOut = d.temperatureOut := rfl
@[simp] theorem DeviceState.setAirIntakeMode_resourceFiltersDays (v : Byte) : (d.setAirIntakeMode v).resourceFiltersDays = d.resourceFiltersDays := rfl
@[simp] theorem DeviceState.setAirIntakeMode_errorCode (v : Byte) : (d.setAirIntakeMode v).errorCode = d.errorCode := rfl
@[simp] theorem DeviceState.setAirIntakeMode_timeHour (v : Byte) : (d.setAirIntakeMode v).timeHour = d.timeHour := rfl
@[simp] theorem DeviceState.setAirIntakeMode_timeMinute (v : Byte) : (d.setAirIntakeMode v).timeMinute = d.timeMinute := rfl
@[simp] theorem DeviceState.setAirIntakeMode_productivity (v : Byte) : (d.setAirIntakeMode v).productivity = d.productivity := rfl
@[simp] theorem DeviceState.setHeaterOn_fanSpeed (v : Bool) : (d.setHeaterOn v).fanSpeed = d.fanSpeed := rfl
@[simp] theorem DeviceState.setHeaterOn_airIntakeMode (v : Bool) : (d.setHeaterOn v).airIntakeMode = d.airIntakeMode := rfl
@[simp] theorem DeviceState.setHeaterOn_heaterOn (v : Bool) : (d.setHeaterOn v).heaterOn = v := rfl
@[simp] theorem DeviceState.setHeaterOn_powerOn (v : Bool) : (d.setHeaterOn v).powerOn = d.powerOn := rfl
@[simp] theorem DeviceState.setHeaterOn_timerOn (v : Bool) : (d.setHeaterOn v).timerOn = d.timerOn := rfl
@[simp] theorem DeviceState.setHeaterOn_soundOn (v : Bool) : (d.setHeaterOn v).soundOn = d.soundOn := rfl
@[simp] theorem DeviceState.setHeaterOn_magicAirConnected (v : Bool) : (d.setHeaterOn v).magicAirConnected = d.magicAirConnected := rfl
@[simp] theorem DeviceState.setHeaterOn_presetsOn (v : Bool) : (d.setHeaterOn v).presetsOn = d.presetsOn := rfl
@[simp] theorem DeviceState.setHeaterOn_heaterTemperature (v : Bool) : (d.setHeaterOn v).heaterTemperature = d.heaterTemperature := rfl
@[simp] theorem DeviceState.setHeaterOn_temperatureIn (v : Bool) : (d.setHeaterOn v).temperatureIn = d.temperatureIn := rfl
@[simp] theorem DeviceState.setHeaterOn_temperatureOut (v : Bool) : (d.setHeaterOn v).temperatureOut = d.temperatureOut := rfl
@[simp] theorem DeviceState.setHeaterOn_resourceFiltersDays (v : Bool) : (d.setHeaterOn v).resourceFiltersDays = d.resourceFiltersDays := rfl
@[simp] theorem DeviceState.setHeaterOn_errorCode (v : Bool) : (d.setHeaterOn v).errorCode = d.errorCode := rfl
@[simp] theorem DeviceState.setHeaterOn_timeHour (v : Bool) : (d.setHeaterOn v).timeHour = d.timeHour := rfl
@[simp] theorem DeviceState.setHeaterOn_timeMinute (v : Bool) : (d.setHeaterOn v).timeMinute = d.timeMinute := rfl
@[simp] theorem DeviceState.setHeaterOn_productivity (v : Bool) : (d.setHeaterOn v).productivity = d.productivity := rfl
@[simp] theorem DeviceState.setPowerOn_fanSpeed (v : Bool) : (d.setPowerOn v).fanSpeed = d.fanSpeed := rfl
@[simp] theorem DeviceState.setPowerOn_airIntakeMode (v : Bool) : (d.setPowerOn v).airIntakeMode = d.airIntakeMode := rfl
@[simp] theorem DeviceState.setPowerOn_heaterOn (v : Bool) : (d.setPowerOn v).heaterOn = d.heaterOn := rfl
@[simp] theorem DeviceState.setPowerOn_powerOn (v : Bool) : (d.setPowerOn v).powerOn = v := rfl
@[simp] theorem DeviceState.setPowerOn_timerOn (v : Bool) : (d.setPowerOn v).timerOn = d.timerOn := rfl
@[simp] theorem DeviceState.setPowerOn_soundOn (v : Bool) : (d.setPowerOn v).soundOn = d.soundOn := rfl
@[simp] theorem DeviceState.setPowerOn_magicAirConnected (v : Bool) : (d.setPowerOn v).magicAirConnected = d.magicAirConnected := rfl
@[simp] theorem DeviceState.setPowerOn_presetsOn (v : Bool) : (d.setPowerOn v).presetsOn = d.presetsOn := rfl
@[simp] theorem DeviceState.setPowerOn_heaterTemperature (v : Bool) : (d.setPowerOn v).heaterTemperature = d.heaterTemperature := rfl
@[simp] theorem DeviceState.setPowerOn_temperatureIn (v : Bool) : (d.setPowerOn v).temperatureIn = d.temperatureIn := rfl
@[simp] theorem DeviceState.setPowerOn_temperatureOut (v : Bool) : (d.setPowerOn v).temperatureOut = d.temperatureOut := rfl
@[simp] theorem DeviceState.setPowerOn_resourceFiltersDays (v : Bool) : (d.setPowerOn v).resourceFiltersDays = d.resourceFiltersDays := rfl
@[simp] theorem DeviceState.setPowerOn_errorCode (v : Bool) : (d.setPowerOn v).errorCode = d.errorCode := rfl
@[simp] theorem DeviceState.setPowerOn_timeHour (v : Bool) : (d.setPowerOn v).timeHour = d.timeHour := rfl
@[simp] theorem DeviceState.setPowerOn_timeMinute (v : Bool) : (d.setPowerOn v).timeMinute = d.timeMinute := rfl
@[simp] theorem DeviceState.setPowerOn_productivity (v : Bool) : (d.setPowerOn v).productivity = d.productivity := rfl
@[simp] theorem DeviceState.setSoundOn_fanSpeed (v : Bool) : (d.setSoundOn v).fanSpeed = d.fanSpeed := rfl
@[simp] theorem DeviceState.setSoundOn_airIntakeMode (v : Bool) : (d.setSoundOn v).airIntakeMode = d.airIntakeMode := rfl
@[simp] theorem DeviceState.setSoundOn_heaterOn (v : Bool) : (d.setSoundOn v).heaterOn = d.heaterOn := rfl
@[simp] theorem DeviceState.setSoundOn_powerOn (v : Bool) : (d.setSoundOn v).powerOn = d.powerOn := rfl
@[simp] theorem DeviceState.setSoundOn_timerOn (v : Bool) : (d.setSoundOn v).timerOn = d.timerOn := rfl
@[simp] theorem DeviceState.setSoundOn_soundOn (v : Bool) : (d.setSoundOn v).soundOn = v := rfl
@[simp] theorem DeviceState.setSoundOn_magicAirConnected (v : Bool) : (d.setSoundOn v).magicAirConnected = d.magicAirConnected := rfl
@[simp] theorem DeviceState.setSoundOn_presetsOn (v : Bool) : (d.setSoundOn v).presetsOn = d.presetsOn := rfl
@[simp] theorem DeviceState.setSoundOn_heaterTemperature (v : Bool) : (d.setSoundOn v).heaterTemperature = d.heaterTemperature := rfl
@[simp] theorem DeviceState.setSoundOn_temperatureIn (v : Bool) : (d.setSoundOn v).temperatureIn = d.temperatureIn := rfl
@[simp] theorem DeviceState.setSoundOn_temperatureOut (v : Bool) : (d.setSoundOn v).temperatureOut = d.temperatureOut := rfl
@[simp] theorem DeviceState.setSoundOn_resourceFiltersDays (v : Bool) : (d.setSoundOn v).resourceFiltersDays = d.resourceFiltersDays := rfl
@[simp] theorem DeviceState.setSoundOn_errorCode (v : Bool) : (d.setSoundOn v).errorCode = d.errorCode := rfl
@[simp] theorem DeviceState.setSoundOn_timeHour (v : Bool) : (d.setSoundOn v).timeHour = d.timeHour := rfl
@[simp] theorem DeviceState.setSoundOn_timeMinute (v : Bool) : (d.setSoundOn v).timeMinute = d.timeMinute := rfl
@[simp] theorem DeviceState.setSoundOn_productivity (v : Bool) : (d.setSoundOn v).productivity = d.productivity := rfl

end BankUpdates

section IdleRecord

@[simp] theorem Out.idle_status : Out.idle.status = .ok := rfl
@[simp] theorem Out.idle_envUnexpected : Out.idle.envUnexpected = false := rfl
@[simp] theorem Out.idle_frameOut : Out.idle.frameOut = none := rfl
@[simp] theorem Out.idle_wdTx : Out.idle.wdTx = none := rfl
@[simp] theorem Out.idle_stale : Out.idle.stale = false := rfl
@[simp] theorem Out.fire_status : Out.fire.status = .ok := rfl
@[simp] theorem Out.fire_envUnexpected : Out.fire.envUnexpected = false := rfl
@[simp] theorem Out.fire_frameOut : Out.fire.frameOut = none := rfl
@[simp] theorem Out.fire_wdTx : Out.fire.wdTx = some reqFrame := rfl
@[simp] theorem Out.fire_stale : Out.fire.stale = true := rfl
@[simp] theorem Watchdog.initial_state : Watchdog.initial.state = .idle := rfl
@[simp] theorem Watchdog.initial_count : Watchdog.initial.count = 0 := rfl
@[simp] theorem Watchdog.armed_state (c : Cfg) : (Watchdog.armed c).state = .armed := rfl
@[simp] theorem Watchdog.armed_count (c : Cfg) : (Watchdog.armed c).count = BitVec.ofNat 14 c.timeoutTicks := rfl
@[simp] theorem Watchdog.countDown_state (w : Watchdog) : w.countDown.state = w.state := rfl
@[simp] theorem Watchdog.countDown_count (w : Watchdog) : w.countDown.count = w.count - 1 := rfl

end IdleRecord

end Sys2Proof.Machine
end

