-- ==== Sys2Proof/Laws/Ops.lean ====
section
/-! SUPPORT. For each shared operation one lemma that says everything it can do. -/

namespace Sys2Proof.Machine

/-- `fdiv` by 2 is Lean's floor division, which omega reads. -/
theorem fdiv_two (x : Int) : fdiv x 2 = x / 2 :=
  Int.fdiv_eq_ediv_of_nonneg x (by decide)

/-- `fdiv` by 360 is Lean's floor division, which omega reads. -/
theorem fdiv_360 (x : Int) : fdiv x 360 = x / 360 :=
  Int.fdiv_eq_ediv_of_nonneg x (by decide)

/-- A byte written is read back, and every other byte is as before. -/
theorem rxByte_txByte (f : Frame) (i j : Fin 20) (v : Byte) :
    rxByte (txByte f i v) j = if i = j then v else rxByte f j := by
  simp only [rxByte, txByte, Vector.getElem_set, Fin.ext_iff]

/-- Every byte of the SetState frame, a later `TxByte` over an earlier one (40_command_encode.md R103). -/
theorem rxByte_setStateFrame (c : Cfg) (fan htemp mode : Byte) (heater power sound : Bool) (k : Fin 20) :
    rxByte (setStateFrame c fan htemp mode heater power sound) k =
      if c.ssOffConst = k then c.ssConstVal
      else if c.ssOffFlags = k then setStateFlags heater power sound
      else if c.ssOffMode = k then mode
      else if c.ssOffHtemp = k then htemp
      else if c.ssOffFan = k then fan
      else if k = 19 then 0x5A
      else if k = 1 then 0x02
      else if k = 0 then 0x3D
      else 0x00 := by
  have base : ∀ k : Fin 20, rxByte (cmdBase opcSetState) k =
      if k = 19 then 0x5A else if k = 1 then 0x02 else if k = 0 then 0x3D else 0x00 := by decide
  simp only [setStateFrame, rxByte_txByte, base]

/-- An allowed configuration leaves bytes 0, 1, 2 and 19 of the SetState frame to the base frame (00_scope.md R9). -/
theorem setStateFrame_envelope {c : Cfg} (h : c.wf) (fan htemp mode : Byte) (heater power sound : Bool) :
    let f := setStateFrame c fan htemp mode heater power sound
    rxByte f 0 = 0x3D ∧ rxByte f 1 = 0x02 ∧ rxByte f 2 = 0x00 ∧ rxByte f 19 = 0x5A := by
  obtain ⟨-, hr, -, -⟩ := h
  have outside : ∀ o : Fin 20, 3 ≤ o.val → o.val ≤ 18 → o ≠ 0 ∧ o ≠ 1 ∧ o ≠ 2 ∧ o ≠ 19 := by decide
  simp only [List.mem_cons, List.not_mem_nil, or_false, forall_eq_or_imp, forall_eq] at hr
  obtain ⟨⟨r1, q1⟩, ⟨r2, q2⟩, ⟨r3, q3⟩, ⟨r4, q4⟩, r5, q5⟩ := hr
  simp [rxByte_setStateFrame, outside _ r1 q1, outside _ r2 q2, outside _ r3 q3, outside _ r4 q4, outside _ r5 q5]

/-- An allowed configuration's SetState frame holds each field at its offset (00_scope.md R9, 40_command_encode.md R103). -/
theorem setStateFrame_fields {c : Cfg} (h : c.wf) (fan htemp mode : Byte) (heater power sound : Bool) :
    let f := setStateFrame c fan htemp mode heater power sound
    rxByte f c.ssOffFan = fan ∧ rxByte f c.ssOffHtemp = htemp ∧ rxByte f c.ssOffMode = mode ∧
    rxByte f c.ssOffFlags = setStateFlags heater power sound ∧ rxByte f c.ssOffConst = c.ssConstVal := by
  obtain ⟨hp, -, -, -⟩ := h
  simp only [List.pairwise_cons, List.mem_cons, List.not_mem_nil, or_false, forall_eq_or_imp, forall_eq] at hp
  obtain ⟨⟨a1, a2, a3, a4⟩, ⟨a5, a6, a7⟩, ⟨a8, a9⟩, a10, -⟩ := hp
  simp [rxByte_setStateFrame, a1.symm, a2.symm, a3.symm, a4.symm, a5.symm, a6.symm, a7.symm, a8.symm, a9.symm, a10.symm]

/-- The 20 bytes of a frame are a frame again. -/
@[simp] theorem frameOf_toList (f : Frame) : frameOf f.toList = some f := by
  simp only [frameOf, Vector.length_toList, dite_true]
  congr

/-- Bytes are a frame exactly when there are 20 of them, and then the frame holds them. -/
theorem frameOf_eq_some {bytes : List Byte} {f : Frame} :
    frameOf bytes = some f ↔ bytes = f.toList := by
  refine ⟨fun h => ?_, fun h => h ▸ frameOf_toList f⟩
  unfold frameOf at h
  split at h
  · cases h; simp
  · cases h

/-- Any other number of bytes is no frame. -/
theorem frameOf_eq_none {bytes : List Byte} : frameOf bytes = none ↔ bytes.length ≠ 20 := by
  unfold frameOf
  split <;> simp_all

/-- RX of bytes that are a frame accepts it. -/
theorem State.receive_of_frame (f : Frame) (s : State) :
    s.receive f.toList = s.acceptTelemetry f := by
  simp [State.receive]

/-- RX of any other number of bytes raises INVALID_LENGTH. -/
theorem State.receive_of_length_ne {data : List Byte} (h : data.length ≠ 20) (s : State) :
    s.receive data = s.raise (.invalidLength data.length) := by
  simp [State.receive, frameOf_eq_none.mpr h]

/-- Everything RX can do (41_telemetry_decode.md R120). -/
theorem State.receive_cases (data : List Byte) (s : State) :
    (∃ f : Frame, data = f.toList ∧ s.receive data = s.acceptTelemetry f) ∨
    (data.length ≠ 20 ∧ s.receive data = s.raise (.invalidLength data.length)) := by
  by_cases h : data.length = 20
  · left
    have hn : frameOf data ≠ none := fun hn => frameOf_eq_none.mp hn h
    obtain ⟨f, hf⟩ := Option.ne_none_iff_exists'.mp hn
    obtain rfl := frameOf_eq_some.mp hf
    exact ⟨f, rfl, State.receive_of_frame f s⟩
  · exact .inr ⟨h, State.receive_of_length_ne h s⟩

/-- Everything TICK can do (43_watchdog.md R172 to R174). -/
theorem State.tickWatchdog_cases (s : State) :
    (s.wd.state = .idle ∧ s.tickWatchdog = .next s.quiet) ∨
    (s.wd.state = .armed ∧ s.wd.count = 0 ∧ s.tickWatchdog = .fault .watchdogCountZero) ∨
    (s.wd.state = .armed ∧ s.wd.count = 1 ∧
      s.tickWatchdog = .next ((s.withWd Watchdog.initial).withOut Out.fire)) ∨
    (s.wd.state = .armed ∧ 1 < s.wd.count.toNat ∧ s.tickWatchdog = .next (s.withWd s.wd.countDown).quiet) := by
  unfold State.tickWatchdog
  cases h : s.wd.state with
  | idle => simp
  | armed =>
    by_cases h0 : s.wd.count = 0
    · simp [h0]
    · by_cases h1 : s.wd.count = 1
      · simp [h1]
      · have : 1 < s.wd.count.toNat := by
          have h0' : s.wd.count.toNat ≠ 0 := fun h => h0 (BitVec.eq_of_toNat_eq (by simpa using h))
          have h1' : s.wd.count.toNat ≠ 1 := fun h => h1 (BitVec.eq_of_toNat_eq (by simpa using h))
          omega
        exact .inr (.inr (.inr ⟨rfl, this, by simp only [if_neg h0, if_neg h1]⟩))

/-- A counting TICK takes exactly one from the count. -/
theorem Watchdog.countDown_toNat {w : Watchdog} (h : 1 ≤ w.count.toNat) :
    w.countDown.count.toNat = w.count.toNat - 1 := by
  have := w.count.isLt
  have h1 : (1 : BitVec 14).toNat = 1 := rfl
  simp only [Watchdog.countDown_count, BitVec.toNat_sub, h1]
  omega

end Sys2Proof.Machine
end

