-- ==== Sys2Proof/Laws/PerInstr.lean ====
section
/-! SUPPORT. Per-instruction family: an event's encoded word is accepted by its own row of spec/opcode_table.json. -/

namespace Sys2Proof.Laws

/-- The word an event is encoded as satisfies its table row's match and mask. -/
def EncodesInItsRow.Statement (i : Instr) : Prop :=
  ∀ c inp r, i.wellFormed = true → encode c i = .port inp → eventRow i = some r → r.accepts inp.ev = true

/-- An event whose encoded word its row accepts meets the family's statement. -/
theorem EncodesInItsRow.of_word {i : Instr} {ev : BitVec 32} {r : TableRow} {data : List Byte} {rst : Bool}
    (he : ∀ c, encode c i = .port ⟨rst, ev, data⟩) (hr : eventRow i = some r) (h : i.wellFormed = true → r.accepts ev = true) :
    EncodesInItsRow.Statement i := by
  intro c inp q hw he' hr'
  rw [he] at he'
  rw [hr] at hr'
  cases he'
  cases hr'
  exact h hw

/-- A row that is no event has no EV32 row. -/
theorem EncodesInItsRow.of_no_row {i : Instr} (hr : eventRow i = none) : EncodesInItsRow.Statement i := by
  intro _ _ _ _ _ h
  rw [hr] at h
  cases h

namespace EncodesInItsRow

/-- Every field select's words carry kind 3 and that select. -/
theorem wr_accepts (fsel : BitVec 3) (val : Byte) :
    wrWord fsel val &&& 0x00070007#32 = (fsel.setWidth 32 <<< 16) ||| 0x00000003#32 := by
  have h : ∀ v : Byte, (0x00000003#32 ||| (v.setWidth 32 <<< 8)) &&& 0x00070007#32 = 0x00000003#32 := by decide
  have g : ∀ f : BitVec 3, (f.setWidth 32 <<< 16 : BitVec 32) &&& 0x00070007#32 = f.setWidth 32 <<< 16 := by decide
  have dist : ∀ a b c : BitVec 32, (a ||| b) &&& c = (b &&& c) ||| (a &&& c) := by
    intro a b c
    ext k hk
    simp [Bool.and_or_distrib_right, Bool.or_comm]
  rw [wrWord, dist, h, g]

theorem nop : Statement .nop := of_word (fun _ => rfl) rfl (by decide)
theorem rx (data : List Byte) : Statement (.rx data) := of_word (fun _ => rfl) rfl (fun _ => by decide)
theorem encRequestState : Statement .encRequestState := of_word (fun _ => rfl) rfl (by decide)
theorem encSetState : Statement .encSetState := of_word (fun _ => rfl) rfl (by decide)
theorem encPair : Statement .encPair := of_word (fun _ => rfl) rfl (by decide)
theorem encUnsupported (op : Byte) : Statement (.encUnsupported op) := of_word (fun _ => rfl) rfl (by revert op; decide)

theorem wrFan (val : Byte) : Statement (.wrFan val) :=
  of_word (fun _ => rfl) rfl (fun _ => by simp only [TableRow.accepts, wr_accepts]; decide)
theorem wrHtemp (val : Byte) : Statement (.wrHtemp val) :=
  of_word (fun _ => rfl) rfl (fun _ => by simp only [TableRow.accepts, wr_accepts]; decide)
theorem wrMode (val : Byte) : Statement (.wrMode val) :=
  of_word (fun _ => rfl) rfl (fun _ => by simp only [TableRow.accepts, wr_accepts]; decide)
theorem wrHeater (val : Byte) : Statement (.wrHeater val) :=
  of_word (fun _ => rfl) rfl (fun _ => by simp only [TableRow.accepts, wr_accepts]; decide)
theorem wrPower (val : Byte) : Statement (.wrPower val) :=
  of_word (fun _ => rfl) rfl (fun _ => by simp only [TableRow.accepts, wr_accepts]; decide)
theorem wrSound (val : Byte) : Statement (.wrSound val) :=
  of_word (fun _ => rfl) rfl (fun _ => by simp only [TableRow.accepts, wr_accepts]; decide)

theorem wrReserved (fsel : BitVec 3) (val : Byte) : Statement (.wrReserved fsel val) := by
  refine of_word (fun _ => rfl) rfl (fun hw => ?_)
  have h6 : 6 ≤ fsel.toNat := by simpa [Instr.wellFormed] using hw
  have sub : wrWord fsel val &&& 0x00060007#32 = (wrWord fsel val &&& 0x00070007#32) &&& 0x00060007#32 := by
    rw [BitVec.and_assoc]; rfl
  have row : ∀ f : BitVec 3, 6 ≤ f.toNat →
      ((f.setWidth 32 <<< 16) ||| 0x00000003#32) &&& 0x00060007#32 = 0x00060003#32 := by decide
  simp only [TableRow.accepts, sub, wr_accepts, row fsel h6, beq_self_eq_true]

theorem tick : Statement .tick := of_word (fun _ => rfl) rfl (by decide)
theorem tdn : Statement .tdn := of_word (fun _ => rfl) rfl (by decide)
theorem reservedEvent (kind : BitVec 3) : Statement (.reservedEvent kind) := of_word (fun _ => rfl) rfl (by revert kind; decide)
theorem rst : Statement .rst := of_no_row rfl
theorem framePair : Statement .framePair := of_no_row rfl
theorem frameRequestState : Statement .frameRequestState := of_no_row rfl
theorem frameSetState (fan htemp mode : Byte) (heater power sound : Bool) :
    Statement (.frameSetState fan htemp mode heater power sound) := of_no_row rfl
theorem frameTelemetry (frame : Frame) : Statement (.frameTelemetry frame) := of_no_row rfl

end EncodesInItsRow

end Sys2Proof.Laws
end

