-- ==== Sys2Proof/Laws/Step.lean ====
section
/-! SUPPORT. What one step can do: the event taken, exec's meaning as one equation per constructor, and how a run goes on. -/

namespace Sys2Proof.Machine

section Meanings
variable (s : State)

@[simp] theorem exec_nop : exec .nop s = .next s.quiet := rfl
@[simp] theorem exec_rx (data : List Byte) : exec (.rx data) s = .next (s.receive data) := rfl
@[simp] theorem exec_encRequestState : exec .encRequestState s = .next (s.emitFrame reqFrame) := rfl
@[simp] theorem exec_encSetState : exec .encSetState s = .next (s.emitFrame (s.dev.setStateFrame s.cfg)) := rfl
@[simp] theorem exec_encPair : exec .encPair s = .next (s.emitFrame pairFrame) := rfl
@[simp] theorem exec_encUnsupported (op : Byte) :
    exec (.encUnsupported op) s = .next (s.raise (.unsupportedOpcode op)) := rfl
@[simp] theorem exec_wrFan (val : Byte) : exec (.wrFan val) s = .next (s.hostWrite (s.dev.setFanSpeed val)) := rfl
@[simp] theorem exec_wrHtemp (val : Byte) :
    exec (.wrHtemp val) s = .next (s.hostWrite (s.dev.setHeaterTemperature val)) := rfl
@[simp] theorem exec_wrMode (val : Byte) :
    exec (.wrMode val) s = .next (s.hostWrite (s.dev.setAirIntakeMode val)) := rfl
@[simp] theorem exec_wrHeater (val : Byte) :
    exec (.wrHeater val) s = .next (s.hostWrite (s.dev.setHeaterOn (boolOperand val))) := rfl
@[simp] theorem exec_wrPower (val : Byte) :
    exec (.wrPower val) s = .next (s.hostWrite (s.dev.setPowerOn (boolOperand val))) := rfl
@[simp] theorem exec_wrSound (val : Byte) :
    exec (.wrSound val) s = .next (s.hostWrite (s.dev.setSoundOn (boolOperand val))) := rfl
@[simp] theorem exec_wrReserved (fsel : BitVec 3) (val : Byte) :
    exec (.wrReserved fsel val) s = .next (s.raise (.badField fsel)) := rfl
@[simp] theorem exec_tick : exec .tick s = s.tickWatchdog := rfl
@[simp] theorem exec_tdn : exec .tdn s = .next (s.restore) := rfl
@[simp] theorem exec_reservedEvent (kind : BitVec 3) :
    exec (.reservedEvent kind) s = .next (s.raise (.badEvent kind)) := rfl
@[simp] theorem exec_rst : exec .rst s = .next (s.restore) := rfl
@[simp] theorem exec_framePair : exec .framePair s = .next (s.emitFrame pairFrame) := rfl
@[simp] theorem exec_frameRequestState : exec .frameRequestState s = .next (s.emitFrame reqFrame) := rfl
@[simp] theorem exec_frameSetState (fan htemp mode : Byte) (heater power sound : Bool) :
    exec (.frameSetState fan htemp mode heater power sound) s =
      .next (s.emitFrame (setStateFrame s.cfg fan htemp mode heater power sound)) := rfl
@[simp] theorem exec_frameTelemetry (f : Frame) :
    exec (.frameTelemetry f) s = .next (s.acceptTelemetry f) := rfl

end Meanings

/-- A step takes the head of the queue. -/
theorem step_cons {s : State} {inp : Input} {rest : List Input} (h : s.inputs = inp :: rest) :
    step s = exec (decodeInput inp) (s.withInputs rest) := by
  simp [step, State.takeEvent, h]

/-- A step in R18's shape runs the event's instruction under the configuration given. -/
theorem stepUnder_eq (c : Cfg) (s : State) (inp : Input) :
    stepUnder c s inp = exec (decodeInput inp) (s.withCfg c) := rfl

/-- With nothing presented no step is taken. -/
theorem step_nil {s : State} (h : s.inputs = []) : step s = .fault .noEvent := by
  simp [step, State.takeEvent, h]

/-- Everything a step that answers a next state has done. -/
theorem step_next {s t : State} (h : step s = .next t) :
    ∃ inp rest, s.inputs = inp :: rest ∧ exec (decodeInput inp) (s.withInputs rest) = .next t := by
  cases hq : s.inputs with
  | nil => rw [step_nil hq] at h; cases h
  | cons inp rest => exact ⟨inp, rest, rfl, step_cons hq ▸ h⟩

/-- A run of no steps stays. -/
theorem run_zero (s : State) : Host.Core.run core 0 s = .next s := rfl

/-- A run whose first step answers `t` goes on from `t`. -/
theorem run_succ {n : Nat} {s t : State} (h : step s = .next t) :
    Host.Core.run core (n + 1) s = Host.Core.run core n t := by
  have h' : core.step s = .next t := h
  simp only [Host.Core.run, h']

/-- The outputs of a run whose first step answers `t`. -/
theorem outputs_succ {n : Nat} {s t : State} (h : step s = .next t) :
    outputs (n + 1) s = t.out :: outputs n t := by
  simp [outputs, h]

end Sys2Proof.Machine
end

