-- ==== Sys2Proof/Tests/Slice0.lean ====
section
/-! SUPPORT. Tests whose expected results come from spec/95_test_vectors.md and the rules' own examples, and a witness for the hypotheses of every statement that has some. -/

namespace Sys2Proof.Tests

open Sys2Proof.Machine

/-! ## Helpers -/

/-- `S0` with the watchdog registers and the queue given. -/
def stateWith (w : Watchdog) (q : List Input) : State := { State.reset with wd := w, inputs := q }

/-- `S0` with the watchdog Armed at `n`. -/
def armedAt (n : BitVec 14) (q : List Input) : State := stateWith ⟨.armed, n⟩ q

/-- Does the outcome answer a next state with `p`? -/
def answers (o : Host.Outcome State Fault Refusal) (p : State → Bool) : Bool :=
  match o with
  | .next t => p t
  | .fault _ => false
  | .refused _ => false

/-- A step presenting `word`. -/
def word (w : BitVec 32) : Input := ⟨false, w, []⟩

/-- F1 of 95_test_vectors.md section 4. -/
def f1 : List Byte :=
  [0x3D, 0x01, 0x13, 0x14, 0x0B, 0x00, 0x17, 0x19, 0xFB, 0x2C, 0x01, 0, 0, 0, 0, 0, 0, 0, 0, 0x5A]

/-- F2: F1 with byte 0 = 00. -/
def f2 : List Byte :=
  [0x00, 0x01, 0x13, 0x14, 0x0B, 0x00, 0x17, 0x19, 0xFB, 0x2C, 0x01, 0, 0, 0, 0, 0, 0, 0, 0, 0x5A]

/-- F5: F1 with byte 1 = 7E. -/
def f5 : Frame :=
  #v[0x3D, 0x7E, 0x13, 0x14, 0x0B, 0x00, 0x17, 0x19, 0xFB, 0x2C, 0x01, 0, 0, 0, 0, 0, 0, 0, 0, 0x5A]

/-- F1 as a frame. -/
def f1Frame : Frame :=
  #v[0x3D, 0x01, 0x13, 0x14, 0x0B, 0x00, 0x17, 0x19, 0xFB, 0x2C, 0x01, 0, 0, 0, 0, 0, 0, 0, 0, 0x5A]

/-- F2 as a frame. -/
def f2Frame : Frame :=
  #v[0x00, 0x01, 0x13, 0x14, 0x0B, 0x00, 0x17, 0x19, 0xFB, 0x2C, 0x01, 0, 0, 0, 0, 0, 0, 0, 0, 0x5A]

/-- F1 with the unread byte p(3) and the unread bits 4, 6, 7 of p(2) set. -/
def f1Unread : Frame :=
  #v[0x3D, 0x01, 0x13, 0x14, 0xDB, 0xFF, 0x17, 0x19, 0xFB, 0x2C, 0x01, 0, 0, 0, 0, 0, 0, 0, 0xFF, 0x5A]

/-- A configuration whose OPEN parameters are given. -/
def openCfg : Cfg := { Config.cfg with pPresetsByte := some 0, pPresetsBit := some 0, pProductivityOff := some 1 }

/-- A configuration with `TIMEOUT_TICKS` = 1 (L2-WD-11) and one with 16383, the ends of R11's range. -/
def timeoutCfg (n : Nat) : Cfg := { Config.cfg with timeoutMs := n }

/-- The configuration of L2-RX-5 and L2-RX-6. -/
def checkCfg : Cfg := { Config.cfg with respCodeCheck := some 0x01 }

/-- A configuration that R9 allows with the SetState bytes elsewhere. -/
def movedCfg : Cfg := { Config.cfg with ssOffFan := 18, ssOffHtemp := 3, ssOffMode := 10, ssOffFlags := 9, ssOffConst := 4 }

/-! ## WellFormed refuses each ill-formed operand (30_encoding.md R74 to R76) -/

theorem test_wellFormed_refuses_supported_op :
    [0x01, 0x02, 0x05].map (fun op => (Instr.encUnsupported op).wellFormed) = [false, false, false] := by decide
theorem test_wellFormed_refuses_fsel_5 : (Instr.wrReserved 5 0).wellFormed = false := by decide
theorem test_wellFormed_refuses_kind_5 : (Instr.reservedEvent 5).wellFormed = false := by decide

/-! ## Every constructor's word, written out from the spec's encoding of it (30_encoding.md R71, R74 to R76) -/

theorem test_decode_nop : decodeInput (word 0b00000000000000000000000000000000#32) = .nop := by decide
theorem test_decode_rx : decodeInput ⟨false, 0b00000000000000000000000000000001#32, f1⟩ = .rx f1 := by decide
theorem test_decode_encRequestState : decodeInput (word 0b00000000000000000000000100000010#32) = .encRequestState := by decide
theorem test_decode_encSetState : decodeInput (word 0b00000000000000000000001000000010#32) = .encSetState := by decide
theorem test_decode_encPair : decodeInput (word 0b00000000000000000000010100000010#32) = .encPair := by decide
theorem test_decode_encUnsupported : decodeInput (word 0b00000000000000001111111100000010#32) = .encUnsupported 0xFF := by decide
theorem test_decode_wrFan : decodeInput (word 0b00000000000000000000010000000011#32) = .wrFan 4 := by decide
theorem test_decode_wrHtemp : decodeInput (word 0b00000000000000010001010000000011#32) = .wrHtemp 0x14 := by decide
theorem test_decode_wrMode : decodeInput (word 0b00000000000000100000001000000011#32) = .wrMode 2 := by decide
theorem test_decode_wrHeater : decodeInput (word 0b00000000000000110000000100000011#32) = .wrHeater 1 := by decide
theorem test_decode_wrPower : decodeInput (word 0b00000000000001000000000100000011#32) = .wrPower 1 := by decide
theorem test_decode_wrSound : decodeInput (word 0b00000000000001010000000100000011#32) = .wrSound 1 := by decide
theorem test_decode_wrReserved : decodeInput (word 0b00000000000001111111111100000011#32) = .wrReserved 7 0xFF := by decide
theorem test_decode_tick : decodeInput (word 0b00000000000000000000000000000100#32) = .tick := by decide
theorem test_decode_tdn : decodeInput (word 0b00000000000000000000000000000101#32) = .tdn := by decide
theorem test_decode_reservedEvent : decodeInput (word 0b11111111111111111111111111111110#32) = .reservedEvent 6 := by decide
theorem test_decode_rst : decodeInput ⟨true, 0x00000004#32, f1⟩ = .rst := by decide
theorem test_decode_framePair :
    decode Config.cfg (.produced [0x3D, 0x05, 0x01, 0, 0, 0, 0, 0, 0, 0, 0, 0, 0, 0, 0, 0, 0, 0, 0, 0x5A]) = .ok .framePair := by rfl
theorem test_decode_frameRequestState :
    decode Config.cfg (.produced [0x3D, 0x01, 0x00, 0, 0, 0, 0, 0, 0, 0, 0, 0, 0, 0, 0, 0, 0, 0, 0, 0x5A]) = .ok .frameRequestState := by rfl
/-- The frame of L2-ENC-5. -/
theorem test_decode_frameSetState :
    decode Config.cfg (.produced [0x3D, 0x02, 0x00, 0x03, 0x14, 0x01, 0x0B, 0x01, 0, 0, 0, 0, 0, 0, 0, 0, 0, 0, 0, 0x5A]) =
      .ok (.frameSetState 3 0x14 1 true true true) := by rfl
theorem test_decode_frameTelemetry : decode Config.cfg (.received f1) = .ok (.frameTelemetry f1Frame) := by rfl
/-- Flags bit 2 of a SetState frame is always 0 (30_encoding.md R84). -/
theorem test_decode_refuses_flag_bit2 :
    decode Config.cfg (.produced [0x3D, 0x02, 0x00, 0x03, 0x14, 0x01, 0x0F, 0x01, 0, 0, 0, 0, 0, 0, 0, 0, 0, 0, 0, 0x5A]) =
      .error .noCommandFrame := by rfl
theorem test_decode_refuses_19_bytes : decode Config.cfg (.received (f1.take 19)) = .error (.frameLength 19) := by rfl

/-- The rows of the table as the host numbers them, ENC_PAIR and WR_HTEMP (spec/opcode_table.json). -/
theorem test_tableWord : decodeTableWord 16 0x0502 = some .encPair ∧ decodeTableWord 24 0x010003 = some (.wrHtemp 0) ∧
    decodeTableWord 40 0x100000000 = some .rst := by decide

/-! ## The encoder (95_test_vectors.md section 2.1) -/

/-- L2-ENC-1. -/
theorem test_encPair : answers (exec .encPair State.reset) (fun t => t.out.frameOut ==
    some #v[0x3D, 0x05, 0x01, 0, 0, 0, 0, 0, 0, 0, 0, 0, 0, 0, 0, 0, 0, 0, 0, 0x5A]) = true := by decide
/-- L2-ENC-2 and L2-ENC-13. -/
theorem test_encRequestState : answers (exec .encRequestState (armedAt 42 [])) (fun t => t.wd.count == 42 &&
    t.out.frameOut == some #v[0x3D, 0x01, 0, 0, 0, 0, 0, 0, 0, 0, 0, 0, 0, 0, 0, 0, 0, 0, 0, 0x5A]) = true := by decide
/-- L2-ENC-3. -/
theorem test_encSetState : answers (exec .encSetState State.reset) (fun t => t.out.frameOut ==
    some #v[0x3D, 0x02, 0x00, 0x01, 0, 0, 0, 0x01, 0, 0, 0, 0, 0, 0, 0, 0, 0, 0, 0, 0x5A]) = true := by decide
/-- L2-ENC-10. -/
theorem test_encUnsupported : answers (exec (.encUnsupported 0x04) State.reset)
    (fun t => t.out.status.code == 2 && t.out.frameOut == none) = true := by decide

/-! ## The telemetry decoder (95_test_vectors.md sections 2.2 to 2.7) -/

/-- L2-RX-F1, the fields no OPEN parameter selects. -/
theorem test_rx_f1 : answers (exec (.rx f1) State.reset) (fun t => t.dev.fanSpeed == 3 && t.dev.airIntakeMode == 1 &&
    t.dev.heaterTemperature == 20 && t.dev.temperatureOut == 24 && t.dev.temperatureIn == 0xFB &&
    t.dev.resourceFiltersDays == 300 && t.dev.timeHour == 44 && t.dev.timeMinute == 1 && t.readPorts.pct == 83 &&
    t.wd.count == 10000) = true := by decide
/-- L2-RX-2: a bad header byte only sets the warning. -/
theorem test_rx_f2 : answers (exec (.rx f2) State.reset) (fun t => t.out.status == .ok && t.out.envUnexpected &&
    t.dev.fanSpeed == 3) = true := by decide
/-- L2-RX-4. -/
theorem test_envelope_f5 : answers (step (stateWith ⟨.idle, 0⟩ [rxInput f5.toList]))
    (fun t => t.out.status == .ok && !t.out.envUnexpected) = true := by decide
/-- L2-RX-5 and L2-RX-6: steps under a configuration that checks the response code. -/
theorem test_respCodeCheck :
    answers (stepUnder checkCfg State.reset (rxInput f1)) (fun t => t.out.status == .ok && !t.out.envUnexpected &&
      t.dev.fanSpeed == 3 && t.wd.state == .armed) = true ∧
    answers (stepUnder checkCfg State.reset (rxInput f5.toList)) (fun t => t.out.status == .ok && t.out.envUnexpected &&
      t.dev.fanSpeed == 3 && t.wd.state == .armed) = true := by decide
/-- R137 and R138 on F1, by hand: with presetsOn at bit 0 of p(0) = 0x13 and productivity at p(1) = 0x14. -/
theorem test_open_parameters : answers (stepUnder openCfg State.reset (rxInput f1))
    (fun t => t.dev.presetsOn && t.dev.productivity == 0x14) = true := by decide
/-- Section 2.3, flag unpacker: p(2) = 0xD0 and p(2) = 0x2F. -/
theorem test_flag_unpacker :
    (let f := txByte f1Frame 4 0xD0
     [flagHeaterOn f, flagPowerOn f, flagTimerOn f, flagSoundOn f, flagMagicAir f]) = [false, false, false, false, false] ∧
    (let f := txByte f1Frame 4 0x2F
     [flagHeaterOn f, flagPowerOn f, flagTimerOn f, flagSoundOn f, flagMagicAir f]) = [true, true, true, true, true] := by decide
/-- Section 2.4. -/
theorem test_sdec8 : [0x00, 0x7F, 0x80, 0x81, 0xE8, 0xFF].map sdec8 = [0, 127, -128, -127, -24, -1] := by decide
/-- Section 2.5. -/
theorem test_fuse : [fuse 3 4, fuse 1 (-5), fuse (-5) 20, fuse (-1) (-2), fuse (-3) (-4)] = [3, 1, 20, -2, -4] := by decide
/-- Section 2.6. -/
theorem test_normDays : [normDays (word16 0x68 0x01), normDays (word16 0x69 0x01), normDays (word16 0 0x01),
    normDays (word16 0xFF 0xFF), normDays (word16 0 0x05)] = [360, 1, 256, 1, 1] := by decide
theorem test_frameTelemetry : answers (exec (.frameTelemetry f1Frame) State.reset)
    (fun t => t.dev.resourceFiltersDays == 300 && t.wd.count == 10000) = true := by decide

/-! ## Host writes (95_test_vectors.md section 2.8) -/

theorem test_wrFan : answers (exec (.wrFan 4) (armedAt 500 [])) (fun t => t.dev.fanSpeed == 4 && t.wd.count == 500) = true := by decide
theorem test_wrHtemp : answers (exec (.wrHtemp 0xFF) State.reset) (fun t => t.dev.heaterTemperature == 255) = true := by decide
theorem test_wrMode : answers (exec (.wrMode 9) State.reset) (fun t => t.dev.airIntakeMode == 9) = true := by decide
theorem test_wrHeater : answers (exec (.wrHeater 0x02) State.reset) (fun t => t.dev.heaterOn == false) = true ∧
    answers (exec (.wrHeater 0xFF) State.reset) (fun t => t.dev.heaterOn) = true := by decide
theorem test_wrPower : answers (exec (.wrPower 1) State.reset) (fun t => t.dev.powerOn && !t.dev.soundOn) = true := by decide
theorem test_wrSound : answers (exec (.wrSound 1) State.reset) (fun t => t.dev.soundOn && !t.dev.powerOn) = true := by decide
theorem test_wrReserved : answers (exec (.wrReserved 6 1) State.reset)
    (fun t => t.out.status.code == 3 && t.dev == State.reset.dev) = true := by decide

/-! ## Watchdog, NOP, reset (95_test_vectors.md sections 2.9, 2.10) -/

/-- L2-WD-4's last TICK. -/
theorem test_tick_fires : answers (exec .tick (armedAt 1 [])) (fun t => t.wd == ⟨.idle, 0⟩ && t.out.stale &&
    t.out.wdTx == some #v[0x3D, 0x01, 0, 0, 0, 0, 0, 0, 0, 0, 0, 0, 0, 0, 0, 0, 0, 0, 0, 0x5A]) = true := by decide
/-- L2-WD-2. -/
theorem test_tick_counts : answers (exec .tick (armedAt 10000 [])) (fun t => t.wd == ⟨.armed, 9999⟩ && !t.out.stale) = true := by decide
/-- L2-WD-11: under `TIMEOUT_TICKS` = 1 the first TICK after an RX fires. -/
theorem test_timeout_1 : answers (stepUnder (timeoutCfg 1) State.reset (rxInput f1)) (fun t => t.wd == ⟨.armed, 1⟩ &&
    answers (stepUnder (timeoutCfg 1) t tickInput) (fun u => u.wd == ⟨.idle, 0⟩ && u.out.stale)) = true := by decide
theorem test_tdn : answers (exec .tdn (armedAt 3 [])) (fun t => t == State.reset) = true := by decide
/-- L2-EV-1. -/
theorem test_nop : answers (exec .nop (armedAt 7 [])) (fun t => t == armedAt 7 []) = true := by decide
/-- L2-EV-6: only TICK fires. -/
theorem test_reservedEvent : answers (exec (.reservedEvent 6) (armedAt 1 []))
    (fun t => t.out.status.code == 4 && t.wd.count == 1 && !t.out.stale) = true := by decide
/-- L2-EV-7: `rst` overrides a TICK at count 1. -/
theorem test_rst : answers (step (armedAt 1 [⟨true, 0x00000004#32, []⟩])) (fun t => t == State.reset) = true := by decide

/-! ## Witnesses: states and operands that meet the statements' hypotheses -/

theorem witness_DecodeInvertsEncode : Config.cfg.wf ∧ movedCfg.wf ∧ (Instr.encUnsupported 0x04).wellFormed = true ∧
    (Instr.wrReserved 6 0).wellFormed = true ∧ (Instr.reservedEvent 7).wellFormed = true := by decide

/-- One word for each clause: kinds 0 to 7, each opcode class, each field select. -/
theorem witness_EventFieldsDecideInstruction :
    [0x00, 0x01, 0x102, 0x202, 0x502, 0x002, 0xFF02, 0x003, 0x10003, 0x20003, 0x30003, 0x40003, 0x50003, 0x60003, 0x70003,
      0x04, 0x05, 0x06, 0x07].map (fun w => decodeInput (word (BitVec.ofNat 32 w))) =
    [.nop, .rx [], .encRequestState, .encSetState, .encPair, .encUnsupported 0, .encUnsupported 0xFF, .wrFan 0, .wrHtemp 0,
      .wrMode 0, .wrHeater 0, .wrPower 0, .wrSound 0, .wrReserved 6 0, .wrReserved 7 0, .tick, .tdn, .reservedEvent 6,
      .reservedEvent 7] := by decide

theorem witness_StepRunsDecodedEvent : Instr.tick.wellFormed = true ∧ encode Config.cfg .tick = .port tickInput ∧
    (armedAt 1 [tickInput]).inputs = [tickInput] := by decide

theorem witness_PlacedTableWordRunsNext : answers (step (State.reset.withFetchWord 32 0x00000403)) (fun t => t.dev.fanSpeed == 4) = true ∧
    answers (step (State.reset.withFetchWord 0 0)) (fun t => t.out.status == .ok) = true := by decide

/-- The words of ENC_PAIR, ENC_REQUEST_STATE and ENC_SET_STATE with ignored bits set, and a TICK that puts a frame out. -/
theorem witness_supported_words :
    (word 0xFFFF05FA#32).ev.toNat % 8 = 2 ∧ (word 0xFFFF05FA#32).ev.toNat / 256 % 256 = 0x05 ∧
    (word 0xFFFF01FA#32).ev.toNat % 8 = 2 ∧ (word 0xFFFF01FA#32).ev.toNat / 256 % 256 = 0x01 ∧
    (word 0xFFFF02FA#32).ev.toNat % 8 = 2 ∧ (word 0xFFFF02FA#32).ev.toNat / 256 % 256 = 0x02 ∧
    answers (exec .tick (armedAt 1 [])) (fun t => t.out.wdTx.isSome) = true := by decide

theorem witness_SetStateFrameCarriesFields : State.reset.cfg.defaultLayout := by decide

/-- The default configuration and another meet R9 and R11; at the default, bytes 2, 8 and 18 are no SetState position. -/
theorem witness_SetStateFrameHonorsOffsets : State.reset.cfg.wf ∧ (State.resetUnder movedCfg).cfg.wf ∧
    ∀ k ∈ ([2, 8, 18] : List (Fin 20)), k ∉ [Config.cfg.ssOffFan, Config.cfg.ssOffHtemp, Config.cfg.ssOffMode,
      Config.cfg.ssOffFlags, Config.cfg.ssOffConst] := by decide

/-- Opcodes next to the supported ones, with their words. -/
theorem witness_UnsupportedOpcodeIsRefused : ∀ op ∈ ([0x00, 0x03, 0x04, 0x06, 0xFF] : List Byte),
    op ≠ 0x01 ∧ op ≠ 0x02 ∧ op ≠ 0x05 ∧ (encWord op).toNat % 8 = 2 ∧ (encWord op).toNat / 256 % 256 = op.toNat := by decide

theorem witness_EncWritesNoRegister : (word 0xFF02#32).rst = false ∧ (word 0xFF02#32).ev.toNat % 8 = 2 := by decide

theorem witness_SupportedFrameShape : State.reset.cfg.wf ∧ ∀ op ∈ ([0x01, 0x02, 0x05] : List Byte), op = 0x01 ∨ op = 0x02 ∨ op = 0x05 := by decide

/-- Lengths 0, 19 and 21 (L1-3). -/
theorem witness_WrongLengthIsDiscarded : ([] : List Byte).length ≠ 20 ∧ (f1.take 19).length ≠ 20 ∧ (f1 ++ [0]).length ≠ 20 := by decide

/-- F1 has 20 bytes; filter-day words 0, 1, 360, 361 and temperatures on both sides of 0 take each branch. -/
theorem witness_TelemetryCommitsPayload : State.reset.cfg.wf ∧ f1.length = 20 ∧
    [(0x00, 0x00), (0x01, 0x00), (0x68, 0x01), (0x69, 0x01)].map (fun p : Byte × Byte => normDays (word16 p.1 p.2)) = [1, 1, 360, 1] ∧
    [(0x17, 0x19), (0xFB, 0x14), (0x14, 0x00), (0xFD, 0x00)].map
      (fun p : Byte × Byte => s8 (fuse (sdec8 p.1) (sdec8 p.2))) = [0x18, 0x14, 0x14, 0xFE] := by decide

theorem witness_EnvelopeBytesStayOutOfState : ∀ k : Fin 20, 2 ≤ k.val → k.val ≤ 18 → f1Frame[k] = f2Frame[k] := by decide

theorem witness_UnreadPayloadIsIgnored :
    (∀ k ∈ ([0, 1, 4, 5, 6, 7, 8, 9, openCfg.timeHourOff, openCfg.timeMinOff, openCfg.productivityOff] : List (Fin 17)),
      f1Frame[k.val + 2] = f1Unread[k.val + 2]) ∧
    (∀ b ∈ [0, 1, 2, 3, 5], f1Frame[4].getLsbD b = f1Unread[4].getLsbD b) ∧
    f1Frame[openCfg.presetsByte.val + 2].getLsbD openCfg.presetsBit.val =
      f1Unread[openCfg.presetsByte.val + 2].getLsbD openCfg.presetsBit.val := by decide

theorem witness_TelemetryFrameRowIsAccepted : State.reset.cfg.wf := by decide

/-- The ends of each clause's range; -256 and 254 are the sums at the ends of the operands' range. -/
theorem witness_FusionByCases : [fuse (-128) (-128), fuse 127 127] = [-128, 127] ∧ [fuse 1 1, fuse 0 1, fuse 1 0, fuse 0 0, fuse (-128) 127] = [1, 1, 1, 0, 127] := by decide

theorem witness_PercentageFunction : [pct 0, pct 1, pct 360, pct 361] = [1, 0, 100, 1] := by decide

theorem witness_ReadPortsShowPercentage : (DeviceState.initial Config.cfg).daysInRange ∧
    ({ DeviceState.initial Config.cfg with resourceFiltersDays := 1 } : DeviceState).daysInRange := by decide

/-- Words of the six host writes at the ends of `val`'s range. -/
theorem witness_host_write_words : ∀ val ∈ ([0x00, 0xFF] : List Byte), ∀ k ∈ ([0, 1, 2, 3, 4, 5] : List (BitVec 3)),
    (word (wrWord k val)).rst = false ∧ (word (wrWord k val)).ev.toNat = 3 + 65536 * k.toNat + 256 * val.toNat := by decide

theorem witness_ReservedFieldIsRefused : ∀ fsel ∈ ([6, 7] : List (BitVec 3)), 6 ≤ fsel.toNat ∧
    (wrWord fsel 0xFF).toNat % 8 = 3 ∧ (wrWord fsel 0xFF).toNat / 65536 % 8 = fsel.toNat ∧
    (wrWord fsel 0xFF).toNat / 256 % 256 = 0xFF := by decide

/-- Field selects 0 to 7 all occur. -/
theorem witness_HostWriteFrame : ∀ k : BitVec 3, (word (wrWord k 1)).rst = false ∧ (word (wrWord k 1)).ev.toNat % 8 = 3 ∧
    (word (wrWord k 1)).ev.toNat / 65536 % 8 = k.toNat := by decide

/-- Every field select occurs, 5 and 6 on either side of the reserved ones. -/
theorem witness_HostWriteReachesLaterFrame : State.reset.cfg.wf ∧ (State.resetUnder movedCfg).cfg.wf ∧ f1.length = 20 ∧
    ([5, 6] : List (BitVec 3)).map (fun k => decodeInput (eventInput (BitVec.ofNat 32 (3 + 256 * 1 + 65536 * k.toNat)))) =
      [.wrSound 1, .wrReserved 6 1] := by decide

theorem witness_TicksInIdleDoNothing : State.reset.wd.state = .idle ∧ 1 ≤ 1 := by decide

/-- Counts 2 and 10000. -/
theorem witness_TickCountsDown : (armedAt 2 []).wd.state = .armed ∧ 1 < (armedAt 2 []).wd.count.toNat ∧
    1 < (armedAt 10000 []).wd.count.toNat := by decide

theorem witness_TickFiresAtOne : (armedAt 1 []).wd.state = .armed ∧ (armedAt 1 []).wd.count.toNat = 1 := by decide

theorem witness_TickStopsOnlyOutsideRange : ((armedAt 0 []).wd.state = .armed ∧ (armedAt 0 []).wd.count.toNat = 0) ∧
    ¬ ((armedAt 1 []).wd.state = .armed ∧ (armedAt 1 []).wd.count.toNat = 0) := by decide

theorem witness_OnlyDecodedFramesRearm : State.reset.cfg.wf ∧ f1.length = 20 ∧ (f1.take 19).length ≠ 20 := by decide

/-- The ends of R11's range, and a `TICK_MS` of 3 that divides 9 and not 10 (log entry 16). -/
theorem witness_TimeoutFitsTheCounter : (timeoutCfg 1).wf ∧ (timeoutCfg 16383).wf ∧
    ({ timeoutCfg 9 with tickMs := 3 } : Cfg).wf ∧ 3 ∣ 9 ∧ ({ timeoutCfg 10 with tickMs := 3 } : Cfg).wf ∧ ¬ 3 ∣ 10 := by decide

theorem witness_TeardownRestoresReset : (word 0xFFFFFF05#32).rst = false ∧ (word 0xFFFFFF05#32).ev.toNat % 8 = 5 := by decide

theorem witness_ResetPinOverridesEvent : (armedAt 1 [⟨true, 0x00000004#32, f1⟩]).inputs = [⟨true, 0x00000004#32, f1⟩] := by decide

theorem witness_NopDoesNothing : (word 0xFFFFFFF8#32).rst = false ∧ (word 0xFFFFFFF8#32).ev.toNat % 8 = 0 := by decide

theorem witness_ReservedKindIsRefused : ∀ kind ∈ ([6, 7] : List (BitVec 3)), 6 ≤ kind.toNat ∧
    (word (kind.setWidth 32)).ev.toNat % 8 = kind.toNat := by decide

/-- Watchdog registers in R41's range at its ends: Idle 0, Armed 1, Armed 10000. -/
theorem witness_inRange : State.reset.cfg.wf ∧ (⟨.idle, 0⟩ : Watchdog).inRange Config.cfg ∧ (⟨.armed, 1⟩ : Watchdog).inRange Config.cfg ∧
    (⟨.armed, 10000⟩ : Watchdog).inRange Config.cfg := by decide

/-- One event for each row of R180: reset, RX of both lengths, TICK in Idle, at 2 and at 1, TDN, NOP. -/
theorem witness_WatchdogTransitionTable :
    answers (exec (decodeInput ⟨true, 0x00000001#32, f1⟩) (armedAt 1 [])) (fun t => t.wd == ⟨.idle, 0⟩) = true ∧
    answers (exec (decodeInput ⟨false, 0x00000001#32, f1⟩) (armedAt 1 [])) (fun t => t.wd == ⟨.armed, 10000⟩) = true ∧
    answers (exec (decodeInput ⟨false, 0x00000001#32, f1.take 19⟩) (armedAt 1 [])) (fun t => t.wd == ⟨.armed, 1⟩) = true ∧
    answers (exec (decodeInput tickInput) (stateWith ⟨.idle, 0⟩ [])) (fun t => t.wd == ⟨.idle, 0⟩) = true ∧
    answers (exec (decodeInput tickInput) (armedAt 2 [])) (fun t => t.wd == ⟨.armed, 1⟩) = true ∧
    answers (exec (decodeInput tickInput) (armedAt 1 [])) (fun t => t.wd == ⟨.idle, 0⟩) = true ∧
    answers (exec (decodeInput tdnInput) (armedAt 1 [])) (fun t => t.wd == ⟨.idle, 0⟩) = true ∧
    answers (exec (decodeInput (word 0)) (armedAt 1 [])) (fun t => t.wd == ⟨.armed, 1⟩) = true := by decide

theorem witness_TimerFiresOnItsLastTick : (armedAt 2 [tickInput, tickInput]).wd.state = .armed ∧
    1 ≤ (armedAt 2 [tickInput, tickInput]).wd.count.toNat ∧
    (armedAt 2 [tickInput, tickInput]).inputs = List.replicate (armedAt 2 [tickInput, tickInput]).wd.count.toNat tickInput ++ [] := by decide

/-- An Armed and an Idle state that meet the invariant, whatever the queue. -/
theorem witness_inv (q : List Input) : (armedAt 1 q).inv ∧ (stateWith ⟨.idle, 0⟩ q).inv :=
  ⟨⟨witness_inRange.1, witness_inRange.2.2.1, witness_ReadPortsShowPercentage.1, by simp [Out.coherent, armedAt, stateWith, State.reset]⟩,
   ⟨witness_inRange.1, witness_inRange.2.1, witness_ReadPortsShowPercentage.1, by simp [Out.coherent, stateWith, State.reset]⟩⟩

/-- Events that neither arm nor cancel, TICKs among them, from both states of `witness_inv`. -/
theorem witness_OneFirePerArmCycle :
    (∀ q ∈ [word 0x403#32, tickInput, rxInput (f1.take 19), tickInput], cancels q = false ∧ arms q = false) ∧
    (∀ q ∈ [tdnInput, rstInput, tickInput], arms q = false) := by decide

/-- The least and the greatest timeout R11 allows and the default one, with the second frame at the ends of its range. -/
theorem witness_SecondFrameRestartsTimer : (timeoutCfg 1).wf ∧ (timeoutCfg 1).timeoutTicks = 1 ∧ (timeoutCfg 16383).wf ∧
    (timeoutCfg 16383).timeoutTicks = 16383 ∧ f1.length = 20 ∧ f2.length = 20 ∧ 0 < 1 ∧ 5000 < Config.cfg.timeoutTicks ∧
    16382 < 16383 := by decide

theorem witness_StrobesSerializeInOrder : (armedAt 1 []).cfg.wf ∧ (armedAt 1 []).wd = ⟨.armed, 1⟩ ∧ (armedAt 1 []).inputs = [] ∧ f1.length = 20 ∧
    (Strobes.serialize ⟨true, true, true, some f1, some (0, 1), some 2⟩).length = 1 ∧
    (Strobes.serialize ⟨false, true, true, some f1, some (0, 1), some 2⟩).length = 1 ∧
    (Strobes.serialize ⟨false, false, true, some f1, some (0, 1), some 2⟩).length = 4 := by decide

/-- A step from a state of the invariant. -/
theorem witness_InvariantIsKept : (armedAt 1 [tickInput]).inv ∧
    step (armedAt 1 [tickInput]) = .next (((armedAt 1 []).withWd Watchdog.initial).withOut Out.fire) :=
  ⟨(witness_inv _).1, rfl⟩

theorem witness_NoEventEverTraps : (armedAt 1 [tickInput]).inv ∧ (armedAt 1 [tickInput]).inputs = tickInput :: [] :=
  ⟨(witness_inv _).1, rfl⟩

/-- A step that ends with a non-OK status. -/
theorem witness_ErrorsChangeNothing :
    answers (step (armedAt 5 [word 0x00060103#32])) (fun t => t.out.status != .ok) = true := by decide

/-- One event for each status (60_exceptions.md R194). -/
theorem witness_StatusByCheckOrder :
    [⟨true, 0x00000006#32, []⟩, word 0x06#32, word 0x07#32, word 0x01#32, word 0x0002#32, word 0x60003#32, word 0x70003#32,
      word 0x50003#32, word 0x0502#32].map
      (fun inp => answers (exec (decodeInput inp) (armedAt 1 [])) (fun t => t.out.status.code == 0)) =
      [true, false, false, false, false, false, false, true, true] := by decide

/-- A step with `frame_out` and a step with `wd_tx`. -/
theorem witness_FramesComeOnlyFromTheirEvents : (armedAt 1 []).cfg.wf ∧
    answers (step (armedAt 1 [word 0x0502#32])) (fun t => t.out.frameOut.isSome) = true ∧
    answers (step (armedAt 1 [tickInput])) (fun t => t.out.wdTx.isSome && t.out.stale) = true := by decide

/-- A host write and a NOP as steps that answer a next state. -/
theorem witness_BankIsWrittenOnlyByItsWriters :
    answers (step (armedAt 1 [word 0x0403#32])) (fun t => t.dev.fanSpeed == 4) = true ∧
    answers (step (armedAt 1 [word 0x00#32])) (fun t => t.dev == State.reset.dev) = true := by decide

/-- A step under another configuration and a run of two steps that answer next states. -/
theorem witness_ConfigurationIsConstant :
    answers (stepUnder movedCfg State.reset (eventInput 0x00000202#32)) (fun t => t.cfg == movedCfg) = true ∧
    answers (Host.Core.run core 2 (armedAt 2 [tickInput, tickInput])) (fun t => t.out.stale) = true := by decide

end Sys2Proof.Tests
end

section
/-! PROOFS. The scope statements (00_scope.md): the configured SetState layout (R9), the timeout (R11) and the step's configuration argument (R18). -/

namespace Sys2Proof.Machine

/-! ## What an event leaves to the environment -/

/-- RX writes neither the configuration nor the queue, whether it accepts the bytes or raises a status. -/
theorem State.receive_keeps_cfg_inputs (data : List Byte) (s : State) :
    (s.receive data).cfg = s.cfg ∧ (s.receive data).inputs = s.inputs := by
  obtain ⟨f, -, hf⟩ | ⟨-, hr⟩ := s.receive_cases data
  · simp [hf]
  · simp [hr]

/-- TICK writes neither the configuration nor the queue, whichever of its four cases applies. -/
theorem State.tickWatchdog_keeps_cfg_inputs {s t : State} (h : s.tickWatchdog = .next t) :
    t.cfg = s.cfg ∧ t.inputs = s.inputs := by
  obtain ⟨-, ht⟩ | ⟨-, -, ht⟩ | ⟨-, -, ht⟩ | ⟨-, -, ht⟩ := s.tickWatchdog_cases
  all_goals
    rw [ht] at h
    cases h
  · simp
  · simp
  · simp

/-- No instruction writes the configuration or the events still to come (10_state.md R45; log entries 1 and 6).
Only RX and TICK branch; every other row is one shared operation, which keeps both. -/
theorem exec_keeps_cfg_inputs {i : Instr} {s t : State} (h : exec i s = .next t) :
    t.cfg = s.cfg ∧ t.inputs = s.inputs := by
  cases i with
  | rx data =>
    cases h
    exact s.receive_keeps_cfg_inputs data
  | tick => exact State.tickWatchdog_keeps_cfg_inputs h
  | _ =>
    cases h
    exact ⟨rfl, rfl⟩

/-- Settles O57: the step in R18's shape is exec under the given configuration, and exec keeps both fields. -/
theorem stepTakesConfiguration : Obligations.StepTakesConfiguration := by
  intro c s inp
  refine ⟨stepUnder_eq c s inp, fun t ht => ?_⟩
  rw [stepUnder_eq] at ht
  obtain ⟨hcfg, hinputs⟩ := exec_keeps_cfg_inputs ht
  exact ⟨hcfg.trans (s.withCfg_cfg c), hinputs.trans (s.withCfg_inputs c)⟩

/-! ## The timeout -/

/-- Under an allowed configuration the 14-bit counter holds the whole timeout (00_scope.md R11, 10_state.md R40). -/
theorem Watchdog.armed_count_toNat {c : Cfg} (h : c.wf) : (Watchdog.armed c).count.toNat = c.timeoutTicks := by
  obtain ⟨-, -, -, hmax⟩ := h
  rw [Watchdog.armed_count, BitVec.toNat_ofNat, Nat.mod_eq_of_lt (by omega)]

/-- Under an allowed configuration a re-arm leaves the watchdog in R41's range. -/
theorem Watchdog.armed_inRange {c : Cfg} (h : c.wf) : (Watchdog.armed c).inRange c := by
  have hcount := Watchdog.armed_count_toNat h
  obtain ⟨-, -, hmin, -⟩ := h
  exact ⟨nofun, fun _ => ⟨hcount ▸ hmin, hcount.le⟩⟩

/-- Settles O38: the counter loads the quotient, and a quotient times its divisor is the dividend exactly where it divides. -/
theorem timeoutFitsTheCounter : Obligations.TimeoutFitsTheCounter := by
  refine ⟨fun c h => ?_, by decide, rfl, rfl, rfl⟩
  have hcount : (Watchdog.armed c).count.toNat = c.timeoutMs / c.tickMs := Watchdog.armed_count_toNat h
  refine ⟨hcount, Watchdog.armed_inRange h, ?_⟩
  rw [hcount]
  exact (Nat.dvd_iff_div_mul_eq _ _).symm

/-! ## The SetState frame at the configured offsets -/

/-- The SetState flags byte as a number: heater bit 0, power bit 1, sound bit 3 (30_encoding.md R84). -/
theorem setStateFlags_toNat (heater power sound : Bool) :
    (setStateFlags heater power sound).toNat = heater.toNat + 2 * power.toNat + 8 * sound.toNat := by
  revert heater power sound
  decide

/-- Inside 2..18 the SetState frame is 0 wherever the configuration puts no field (40_command_encode.md R100, R103). -/
theorem setStateFrame_elsewhere (c : Cfg) (fan htemp mode : Byte) (heater power sound : Bool) {k : Fin 20}
    (hlo : 2 ≤ k.val) (hhi : k.val ≤ 18)
    (hk : k ∉ [c.ssOffFan, c.ssOffHtemp, c.ssOffMode, c.ssOffFlags, c.ssOffConst]) :
    rxByte (setStateFrame c fan htemp mode heater power sound) k = 0x00 := by
  simp only [List.mem_cons, List.not_mem_nil, or_false, not_or] at hk
  obtain ⟨hfan, hhtemp, hmode, hflags, hconst⟩ := hk
  have envelope : ∀ k : Fin 20, 2 ≤ k.val → k.val ≤ 18 → k ≠ 19 ∧ k ≠ 1 ∧ k ≠ 0 := by decide
  obtain ⟨h19, h1, h0⟩ := envelope k hlo hhi
  rw [rxByte_setStateFrame, if_neg (Ne.symm hconst), if_neg (Ne.symm hflags), if_neg (Ne.symm hmode),
    if_neg (Ne.symm hhtemp), if_neg (Ne.symm hfan), if_neg h19, if_neg h1, if_neg h0]

/-- Settles O12: the frame's bytes are the envelope, the five configured positions and the zeros elsewhere. -/
theorem setStateFrameHonorsOffsets : Obligations.SetStateFrameHonorsOffsets := by
  intro s h
  obtain ⟨b0, b1, b2, b19⟩ := setStateFrame_envelope h s.dev.fanSpeed s.dev.heaterTemperature
    s.dev.airIntakeMode s.dev.heaterOn s.dev.powerOn s.dev.soundOn
  obtain ⟨hfan, hhtemp, hmode, hflags, hconst⟩ := setStateFrame_fields h s.dev.fanSpeed s.dev.heaterTemperature
    s.dev.airIntakeMode s.dev.heaterOn s.dev.powerOn s.dev.soundOn
  exact ⟨s.dev.setStateFrame s.cfg, exec_encSetState s, b0, b1, b2, b19, hfan, hhtemp, hmode,
    (congrArg BitVec.toNat hflags).trans (setStateFlags_toNat _ _ _), hconst,
    fun _ hlo hhi hk => setStateFrame_elsewhere _ _ _ _ _ _ _ hlo hhi hk⟩

end Sys2Proof.Machine
end

section
/-! PROOFS. The state statements (10_state.md): the invariant of the registers and the output record (R35, R41, R42), where frames and `stale` come from (R42), the constant configuration (R45) and the output record that no event reads (R22). -/

namespace Sys2Proof.Machine

/-! ## The output records of the shared operations are coherent -/

/-- A record that carries a status alone. -/
theorem Out.status_coherent (st : Status) : Out.coherent { Out.idle with status := st } := by
  simp [Out.coherent]

/-- The idle record is the one of status OK. -/
theorem Out.idle_coherent : Out.idle.coherent := Out.status_coherent .ok

/-- The envelope flag is a warning: it comes with status OK (41_telemetry_decode.md R122). -/
theorem Out.envelope_coherent (b : Bool) : Out.coherent { Out.idle with envUnexpected := b } := by
  simp [Out.coherent]

/-- The magic bytes of a frame put out (40_command_encode.md R106). -/
def hasMagic (f : Frame) : Prop := f[0] = 0x3D#8 ∧ f[19] = 0x5A#8

/-- A frame put out on its own is coherent once it has the magic bytes. -/
theorem Out.frame_coherent {f : Frame} (h : hasMagic f) :
    Out.coherent { Out.idle with frameOut := some f } := by
  obtain ⟨h0, h19⟩ := h
  simp [Out.coherent, h0, h19]

theorem Out.fire_coherent : Out.fire.coherent := by
  simp [Out.coherent]

/-! ## The frames put out have the magic bytes (40_command_encode.md R106) -/

theorem pairFrame_hasMagic : hasMagic pairFrame := ⟨rfl, rfl⟩

theorem reqFrame_hasMagic : hasMagic reqFrame := ⟨rfl, rfl⟩

/-- No allowed SetState offset reaches a magic byte (00_scope.md R9). -/
theorem setStateFrame_hasMagic {c : Cfg} (h : c.wf) (fan htemp mode : Byte) (heater power sound : Bool) :
    hasMagic (setStateFrame c fan htemp mode heater power sound) := by
  obtain ⟨b0, -, -, b19⟩ := setStateFrame_envelope h fan htemp mode heater power sound
  exact ⟨b0, b19⟩

/-! ## The ranges of the watchdog and of the filter-day field -/

theorem Watchdog.initial_inRange (c : Cfg) : Watchdog.initial.inRange c :=
  ⟨fun _ => rfl, nofun⟩

/-- Counting down from above 1 stays above 0 and below the timeout. -/
theorem Watchdog.countDown_inRange {c : Cfg} {w : Watchdog} (h : w.inRange c) (harmed : w.state = .armed)
    (hcount : 1 < w.count.toNat) : w.countDown.inRange c := by
  obtain ⟨-, hrange⟩ := h
  obtain ⟨-, hmax⟩ := hrange harmed
  have hdown := Watchdog.countDown_toNat hcount.le
  constructor
  · intro hidle
    rw [Watchdog.countDown_state, harmed] at hidle
    cases hidle
  · intro _
    omega

theorem DeviceState.initial_daysInRange (c : Cfg) : (DeviceState.initial c).daysInRange := by
  change 1 ≤ (BitVec.ofNat 9 filterDefault).toNat ∧ (BitVec.ofNat 9 filterDefault).toNat ≤ 360
  decide

/-- Normalization answers 1 outside 1..360 and the word itself inside (41_telemetry_decode.md R133). -/
theorem normDays_range (v : BitVec 16) : 1 ≤ (normDays v).toNat ∧ (normDays v).toNat ≤ 360 := by
  unfold normDays
  split_ifs with hout
  · decide
  · simp only [filterMax, not_or, not_le, not_lt] at hout
    rw [BitVec.toNat_ofNat, Nat.mod_eq_of_lt (by omega)]
    omega

theorem decodePayload_daysInRange (c : Cfg) (f : Frame) : (decodePayload c f).daysInRange :=
  normDays_range _

/-! ## Every shared operation keeps the invariant -/

section Invariant
variable {s : State}

theorem State.withInputs_inv (hs : s.inv) (q : List Input) : (s.withInputs q).inv := hs

/-- An event that writes no register keeps the invariant if its output record is coherent. -/
theorem State.withOut_inv (hs : s.inv) {o : Out} (ho : o.coherent) : (s.withOut o).inv := by
  obtain ⟨hcfg, hwd, hdev, -⟩ := hs
  exact ⟨hcfg, hwd, hdev, ho⟩

theorem State.withDev_inv (hs : s.inv) {d : DeviceState} (hd : d.daysInRange) : (s.withDev d).inv := by
  obtain ⟨hcfg, hwd, -, hout⟩ := hs
  exact ⟨hcfg, hwd, hd, hout⟩

theorem State.withWd_inv (hs : s.inv) {w : Watchdog} (hw : w.inRange s.cfg) : (s.withWd w).inv := by
  obtain ⟨hcfg, -, hdev, hout⟩ := hs
  exact ⟨hcfg, hw, hdev, hout⟩

theorem State.quiet_inv (hs : s.inv) : s.quiet.inv := State.withOut_inv hs Out.idle_coherent

theorem State.raise_inv (hs : s.inv) (st : Status) : (s.raise st).inv :=
  State.withOut_inv hs (Out.status_coherent st)

theorem State.emitFrame_inv (hs : s.inv) {f : Frame} (h : hasMagic f) : (s.emitFrame f).inv :=
  State.withOut_inv hs (Out.frame_coherent h)

/-- A host write leaves the filter-day field as it was (42_state_write.md R168). -/
theorem State.hostWrite_inv (hs : s.inv) {d : DeviceState}
    (hd : d.resourceFiltersDays = s.dev.resourceFiltersDays) : (s.hostWrite d).inv := by
  have hdays : d.daysInRange := by
    obtain ⟨-, -, hdev, -⟩ := hs
    rwa [DeviceState.daysInRange, hd]
  exact State.quiet_inv (State.withDev_inv hs hdays)

/-- Acceptance normalizes the filter-day field, re-arms in range and warns at most (41_telemetry_decode.md R120, R140). -/
theorem State.acceptTelemetry_inv (hs : s.inv) (f : Frame) : (s.acceptTelemetry f).inv := by
  have ⟨hcfg, _, _, _⟩ := hs
  have hdev := State.withDev_inv hs (decodePayload_daysInRange s.cfg f)
  have hwd := State.withWd_inv hdev (Watchdog.armed_inRange hcfg)
  exact State.withOut_inv hwd (Out.envelope_coherent _)

theorem State.restore_inv (hs : s.inv) : s.restore.inv := by
  have hdev := State.withDev_inv hs (DeviceState.initial_daysInRange s.cfg)
  exact State.quiet_inv (State.withWd_inv hdev (Watchdog.initial_inRange s.cfg))

theorem State.receive_inv (hs : s.inv) (data : List Byte) : (s.receive data).inv := by
  obtain ⟨f, -, hf⟩ | ⟨-, hr⟩ := s.receive_cases data
  · rw [hf]
    exact State.acceptTelemetry_inv hs f
  · rw [hr]
    exact State.raise_inv hs _

/-- TICK keeps the invariant: it fires into Idle with count 0, or takes one from a count above 1 (43_watchdog.md R172 to R174). -/
theorem State.tickWatchdog_inv {t : State} (hs : s.inv) (h : s.tickWatchdog = .next t) : t.inv := by
  have ⟨_, hwd, _, _⟩ := hs
  obtain ⟨-, ht⟩ | ⟨-, -, ht⟩ | ⟨-, -, ht⟩ | ⟨harmed, hcount, ht⟩ := s.tickWatchdog_cases
  all_goals
    rw [ht] at h
    cases h
  · exact State.quiet_inv hs
  · exact State.withOut_inv (State.withWd_inv hs (Watchdog.initial_inRange s.cfg)) Out.fire_coherent
  · have hdown := Watchdog.countDown_inRange hwd harmed hcount
    exact State.quiet_inv (State.withWd_inv hs hdown)

/-- Every instruction keeps the invariant, each by the shared operation it is. -/
theorem exec_keeps_inv {i : Instr} {t : State} (hs : s.inv) (h : exec i s = .next t) : t.inv := by
  have ⟨hcfg, _, _, _⟩ := hs
  cases i with
  | tick => exact State.tickWatchdog_inv hs h
  | nop =>
    cases h
    exact State.quiet_inv hs
  | rx data =>
    cases h
    exact State.receive_inv hs data
  | frameTelemetry f =>
    cases h
    exact State.acceptTelemetry_inv hs f
  | encPair | framePair =>
    cases h
    exact State.emitFrame_inv hs pairFrame_hasMagic
  | encRequestState | frameRequestState =>
    cases h
    exact State.emitFrame_inv hs reqFrame_hasMagic
  | encSetState | frameSetState =>
    cases h
    exact State.emitFrame_inv hs (setStateFrame_hasMagic hcfg _ _ _ _ _ _)
  | wrFan | wrHtemp | wrMode | wrHeater | wrPower | wrSound =>
    cases h
    exact State.hostWrite_inv hs rfl
  | encUnsupported | wrReserved | reservedEvent =>
    cases h
    exact State.raise_inv hs _
  | tdn | rst =>
    cases h
    exact State.restore_inv hs

end Invariant

/-- Settles O49: a step is exec on the state without the event taken, and exec keeps the invariant. -/
theorem invariantIsKept : Obligations.InvariantIsKept := by
  intro s t hs h
  obtain ⟨inp, rest, -, hexec⟩ := step_next h
  exact exec_keeps_inv (State.withInputs_inv hs rest) hexec

/-- Settles O50: the default configuration is allowed, and the reset values are in range. -/
theorem invariantAtReset : Obligations.InvariantAtReset := by
  have hcfg : Config.cfg.wf := by decide
  exact ⟨hcfg, Watchdog.initial_inRange _, DeviceState.initial_daysInRange _, Out.idle_coherent⟩

/-! ## Where frames and `stale` come from -/

/-- Everything an event word can decode to, by the number of its kind (30_encoding.md R74). -/
theorem decodeEvent_cases (ev : BitVec 32) (data : List Byte) :
    (ev.toNat % 8 = 0 ∧ decodeEvent ev data = .nop) ∨
    (ev.toNat % 8 = 1 ∧ decodeEvent ev data = .rx data) ∨
    (ev.toNat % 8 = 2 ∧ decodeEvent ev data = decodeEnc (evOp ev)) ∨
    (ev.toNat % 8 = 3 ∧ decodeEvent ev data = decodeWr (evFsel ev) (evVal ev)) ∨
    (ev.toNat % 8 = 4 ∧ decodeEvent ev data = .tick) ∨
    (ev.toNat % 8 = 5 ∧ decodeEvent ev data = .tdn) ∨
    (6 ≤ ev.toNat % 8 ∧ decodeEvent ev data = .reservedEvent (evKind ev)) := by
  rw [← evKind_toNat]
  unfold decodeEvent
  split
  case h_1 h => exact .inl ⟨h, rfl⟩
  case h_2 h => exact .inr (.inl ⟨h, rfl⟩)
  case h_3 h => exact .inr (.inr (.inl ⟨h, rfl⟩))
  case h_4 h => exact .inr (.inr (.inr (.inl ⟨h, rfl⟩)))
  case h_5 h => exact .inr (.inr (.inr (.inr (.inl ⟨h, rfl⟩))))
  case h_6 h => exact .inr (.inr (.inr (.inr (.inr (.inl ⟨h, rfl⟩)))))
  case h_7 h0 h1 h2 h3 h4 h5 =>
    simp only [imp_false] at h0 h1 h2 h3 h4 h5
    exact .inr (.inr (.inr (.inr (.inr (.inr ⟨by omega, rfl⟩)))))

/-- Everything an input can decode to: the reset, or its event word's row (30_encoding.md R73). -/
theorem decodeInput_cases (inp : Input) :
    (inp.rst = true ∧ decodeInput inp = .rst) ∨
    (inp.rst = false ∧ decodeInput inp = decodeEvent inp.ev inp.rx) := by
  unfold decodeInput
  cases inp.rst with
  | true => exact .inl ⟨rfl, rfl⟩
  | false => exact .inr ⟨rfl, rfl⟩

/-- An ENC event puts out a frame whose byte 1 is the opcode, or refuses the opcode (40_command_encode.md R101 to R105). -/
theorem exec_decodeEnc_cases {s : State} (hcfg : s.cfg.wf) (op : Byte) :
    (∃ f : Frame, exec (decodeEnc op) s = .next (s.emitFrame f) ∧ f[1] = op ∧ op.toNat ∈ [0x01, 0x02, 0x05]) ∨
    exec (decodeEnc op) s = .next (s.raise (.unsupportedOpcode op)) := by
  unfold decodeEnc
  split_ifs with hreq hset hpair
  · subst hreq
    exact .inl ⟨reqFrame, rfl, rfl, by decide⟩
  · subst hset
    obtain ⟨-, b1, -, -⟩ := setStateFrame_envelope hcfg s.dev.fanSpeed s.dev.heaterTemperature
      s.dev.airIntakeMode s.dev.heaterOn s.dev.powerOn s.dev.soundOn
    exact .inl ⟨s.dev.setStateFrame s.cfg, rfl, b1, by decide⟩
  · subst hpair
    exact .inl ⟨pairFrame, rfl, rfl, by decide⟩
  · exact .inr rfl

/-- A WR event writes the bank or refuses its field select (42_state_write.md R160 to R167). -/
theorem exec_decodeWr_cases (s : State) (fsel : BitVec 3) (val : Byte) :
    (∃ d, exec (decodeWr fsel val) s = .next (s.hostWrite d)) ∨
    exec (decodeWr fsel val) s = .next (s.raise (.badField fsel)) := by
  unfold decodeWr
  split
  · exact .inl ⟨_, exec_wrFan s val⟩
  · exact .inl ⟨_, exec_wrHtemp s val⟩
  · exact .inl ⟨_, exec_wrMode s val⟩
  · exact .inl ⟨_, exec_wrHeater s val⟩
  · exact .inl ⟨_, exec_wrPower s val⟩
  · exact .inl ⟨_, exec_wrSound s val⟩
  · exact .inr (exec_wrReserved s fsel val)

/-- The record carries no frame, no re-query and no stale pulse. -/
def Out.silent (o : Out) : Prop := o.frameOut = none ∧ o.wdTx = none ∧ o.stale = false

theorem Out.idle_silent : Out.idle.silent := ⟨rfl, rfl, rfl⟩

theorem State.raise_silent (s : State) (st : Status) : (s.raise st).out.silent := ⟨rfl, rfl, rfl⟩

theorem State.receive_silent (s : State) (data : List Byte) : (s.receive data).out.silent := by
  obtain ⟨f, -, hf⟩ | ⟨-, hr⟩ := s.receive_cases data
  · rw [hf]
    exact ⟨rfl, rfl, rfl⟩
  · rw [hr]
    exact s.raise_silent _

/-- A TICK is silent or is the fire at count 1 (43_watchdog.md R172 to R174). -/
theorem State.tickWatchdog_out {s t : State} (h : s.tickWatchdog = .next t) :
    t.out.silent ∨ (s.wd.state = .armed ∧ s.wd.count.toNat = 1 ∧ t.out = Out.fire) := by
  obtain ⟨-, ht⟩ | ⟨-, -, ht⟩ | ⟨harmed, hone, ht⟩ | ⟨-, -, ht⟩ := s.tickWatchdog_cases
  all_goals
    rw [ht] at h
    cases h
  · exact .inl Out.idle_silent
  · exact .inr ⟨harmed, congrArg BitVec.toNat hone, rfl⟩
  · exact .inl Out.idle_silent

/-- Everything an event can put out: nothing, the frame of a supported ENC, or the fire of the last TICK (10_state.md R42). -/
theorem exec_decodeInput_out {s t : State} {inp : Input} (hcfg : s.cfg.wf)
    (h : exec (decodeInput inp) s = .next t) :
    t.out.silent ∨
    (∃ f : Frame, t.out = { Out.idle with frameOut := some f } ∧ inp.rst = false ∧ inp.ev.toNat % 8 = 2 ∧
      f[1] = evOp inp.ev ∧ (evOp inp.ev).toNat ∈ [0x01, 0x02, 0x05]) ∨
    (t.out = Out.fire ∧ inp.rst = false ∧ inp.ev.toNat % 8 = 4 ∧ s.wd.state = .armed ∧ s.wd.count.toNat = 1) := by
  obtain ⟨-, hrow⟩ | ⟨hrst, hrow⟩ := decodeInput_cases inp
  · rw [hrow] at h
    cases h
    exact .inl Out.idle_silent
  · rw [hrow] at h
    obtain ⟨-, hi⟩ | ⟨-, hi⟩ | ⟨hkind, hi⟩ | ⟨-, hi⟩ | ⟨hkind, hi⟩ | ⟨-, hi⟩ | ⟨-, hi⟩ :=
      decodeEvent_cases inp.ev inp.rx
    all_goals rw [hi] at h
    · cases h
      exact .inl Out.idle_silent
    · cases h
      exact .inl (s.receive_silent _)
    · obtain ⟨f, hf, hop, hmem⟩ | hr := exec_decodeEnc_cases hcfg (evOp inp.ev)
      · cases hf.symm.trans h
        exact .inr (.inl ⟨f, rfl, hrst, hkind, hop, hmem⟩)
      · cases hr.symm.trans h
        exact .inl (s.raise_silent _)
    · obtain ⟨d, hd⟩ | hr := exec_decodeWr_cases s (evFsel inp.ev) (evVal inp.ev)
      · cases hd.symm.trans h
        exact .inl Out.idle_silent
      · cases hr.symm.trans h
        exact .inl (s.raise_silent _)
    · obtain hsilent | ⟨harmed, hone, hfire⟩ := State.tickWatchdog_out h
      · exact .inl hsilent
      · exact .inr (.inr ⟨hfire, hrst, hkind, harmed, hone⟩)
    · cases h
      exact .inl Out.idle_silent
    · cases h
      exact .inl (s.raise_silent _)

/-- Settles O54: a silent record has none of the three outputs, and each other record names its event. -/
theorem framesComeOnlyFromTheirEvents : Obligations.FramesComeOnlyFromTheirEvents := by
  intro s t inp rest hcfg hq h
  rw [step_cons hq] at h
  obtain ⟨hframe, htx, hstale⟩ | ⟨f, hout, hrst, hkind, hop, hmem⟩ | ⟨hout, hfire⟩ :=
    exec_decodeInput_out (s := s.withInputs rest) hcfg h
  · simp [hframe, htx, hstale]
  · refine ⟨fun g hg => ?_, fun hwd => by simp [hout] at hwd⟩
    obtain rfl : f = g := by simpa [hout] using hg
    exact ⟨hrst, hkind, by rw [hop, evOp_toNat], hop ▸ hmem⟩
  · exact ⟨fun g hg => by simp [hout] at hg, fun _ => hfire⟩

/-! ## The configuration -/

/-- Everything a run that answers a next state has done. -/
theorem run_succ_next {n : Nat} {s t : State} (h : Host.Core.run core (n + 1) s = .next t) :
    ∃ u, step s = .next u ∧ Host.Core.run core n u = .next t := by
  cases hu : step s with
  | next u => exact ⟨u, rfl, run_succ hu ▸ h⟩
  | fault r =>
    have hstop : core.step s = .fault r := hu
    simp [Host.Core.run, hstop] at h
  | refused r =>
    have hstop : core.step s = .refused r := hu
    simp [Host.Core.run, hstop] at h

/-- What every step keeps, every run keeps. -/
theorem run_keeps {P : State → Prop} (hstep : ∀ s t, P s → step s = .next t → P t) {n : Nat} {s t : State}
    (hs : P s) (h : Host.Core.run core n s = .next t) : P t := by
  induction n generalizing s with
  | zero =>
    cases h
    exact hs
  | succ n ih =>
    obtain ⟨u, hu, hrun⟩ := run_succ_next h
    exact ih (hstep s u hs hu) hrun

theorem step_keeps_cfg {s t : State} (h : step s = .next t) : t.cfg = s.cfg := by
  obtain ⟨inp, rest, -, hexec⟩ := step_next h
  exact (exec_keeps_cfg_inputs hexec).1

/-- Settles O58: by induction on the length of the run. -/
theorem configurationIsConstant : Obligations.ConfigurationIsConstant :=
  ⟨fun _ _ _ h => (exec_keeps_cfg_inputs h).1,
   fun _ s _ h => run_keeps (P := fun u => u.cfg = s.cfg) (fun _ _ hu hstep => (step_keeps_cfg hstep).trans hu) rfl h⟩

/-! ## The output record is write-only -/

theorem State.receive_withOut (s : State) (o : Out) (data : List Byte) :
    (s.withOut o).receive data = s.receive data := by
  obtain ⟨f, rfl, hf⟩ | ⟨hlen, hr⟩ := s.receive_cases data
  · rw [hf]
    exact State.receive_of_frame f (s.withOut o)
  · rw [hr]
    exact State.receive_of_length_ne hlen (s.withOut o)

theorem State.tickWatchdog_withOut (s : State) (o : Out) : (s.withOut o).tickWatchdog = s.tickWatchdog := rfl

/-- Settles O55: every row is a shared operation that writes the whole record and reads the registers alone. -/
theorem outputRecordIsNeverRead : Obligations.OutputRecordIsNeverRead := by
  intro i s o
  change exec i (s.withOut o) = exec i s
  cases i with
  | rx data => exact congrArg Host.Outcome.next (s.receive_withOut o data)
  | tick => exact s.tickWatchdog_withOut o
  | _ => rfl

end Sys2Proof.Machine
end

section
/-! PROOFS. The decoder, the encoder and the opcode table (30_encoding.md): the event word's fields (R71), the round trip over every row (R74 to R82) and the widest accepting row (R77). -/

namespace Sys2Proof.Machine

/-! ## The event word's fields decide the row -/

/-- With `rst` = 0 a step performs the event word's row (30_encoding.md R73). -/
theorem decodeInput_of_rst_false {inp : Input} (h : inp.rst = false) :
    decodeInput inp = decodeEvent inp.ev inp.rx := by
  simp [decodeInput, h]

/-- The row of an event word by the number of its kind (30_encoding.md R74). -/
theorem decodeEvent_eq (ev : BitVec 32) (data : List Byte) : decodeEvent ev data =
    if ev.toNat % 8 = 0 then .nop else if ev.toNat % 8 = 1 then .rx data
    else if ev.toNat % 8 = 2 then decodeEnc (evOp ev)
    else if ev.toNat % 8 = 3 then decodeWr (evFsel ev) (evVal ev)
    else if ev.toNat % 8 = 4 then .tick else if ev.toNat % 8 = 5 then .tdn
    else .reservedEvent (evKind ev) := by
  obtain ⟨hkind, hrow⟩ | ⟨hkind, hrow⟩ | ⟨hkind, hrow⟩ | ⟨hkind, hrow⟩ | ⟨hkind, hrow⟩ | ⟨hkind, hrow⟩ | ⟨hkind, hrow⟩ :=
    decodeEvent_cases ev data
  all_goals rw [hrow]
  · simp [hkind]
  · simp [hkind]
  · simp [hkind]
  · simp [hkind]
  · simp [hkind]
  · simp [hkind]
  · have hne : ∀ k < 6, ev.toNat % 8 ≠ k := fun k hk => by omega
    simp [hne]

theorem decodeEvent_of_kind_enc {ev : BitVec 32} (h : ev.toNat % 8 = 2) (data : List Byte) :
    decodeEvent ev data = decodeEnc (evOp ev) := by
  simp [decodeEvent_eq, h]

theorem decodeEvent_of_kind_wr {ev : BitVec 32} (h : ev.toNat % 8 = 3) (data : List Byte) :
    decodeEvent ev data = decodeWr (evFsel ev) (evVal ev) := by
  simp [decodeEvent_eq, h]

theorem decodeEvent_of_kind_reserved {ev : BitVec 32} (h : 6 ≤ ev.toNat % 8) (data : List Byte) :
    decodeEvent ev data = .reservedEvent (evKind ev) := by
  have hne : ∀ k < 6, ev.toNat % 8 ≠ k := fun k hk => by omega
  simp [decodeEvent_eq, hne]

/-- Settles O2: the decoder's three case tables, with each field of the word as a number. -/
theorem eventFieldsDecideInstruction : Obligations.EventFieldsDecideInstruction := by
  intro inp hrst kind op fsel
  have hop : evOp inp.ev = BitVec.ofNat 8 op := eq_ofNat_of_toNat (evOp_toNat inp.ev)
  have hval : evVal inp.ev = BitVec.ofNat 8 op := eq_ofNat_of_toNat (evVal_toNat inp.ev)
  have hfsel : evFsel inp.ev = BitVec.ofNat 3 fsel := eq_ofNat_of_toNat (evFsel_toNat inp.ev)
  have hkind : evKind inp.ev = BitVec.ofNat 3 kind := eq_ofNat_of_toNat (evKind_toNat inp.ev)
  rw [decodeInput_of_rst_false hrst, decodeEvent_eq, decodeEnc_eq, decodeWr_eq, evOp_toNat, evFsel_toNat,
    hop, hval, hfsel, hkind]

/-! ## The words the encoder writes -/

/-- An ENC word decodes to the row of its opcode. -/
theorem decodeEvent_encWord (op : Byte) (data : List Byte) : decodeEvent (encWord op) data = decodeEnc op := by
  have hlt := op.isLt
  have hkind : (encWord op).toNat % 8 = 2 := by rw [encWord_toNat]; omega
  have hop : evOp (encWord op) = op := by
    apply BitVec.eq_of_toNat_eq
    rw [evOp_toNat, encWord_toNat]
    omega
  rw [decodeEvent_of_kind_enc hkind, hop]

/-- A WR word decodes to the row of its field select, with its value. -/
theorem decodeEvent_wrWord (fsel : BitVec 3) (val : Byte) (data : List Byte) :
    decodeEvent (wrWord fsel val) data = decodeWr fsel val := by
  have hfsel_lt := fsel.isLt
  have hval_lt := val.isLt
  have hkind : (wrWord fsel val).toNat % 8 = 3 := by rw [wrWord_toNat]; omega
  have hfsel : evFsel (wrWord fsel val) = fsel := by
    apply BitVec.eq_of_toNat_eq
    rw [evFsel_toNat, wrWord_toNat]
    omega
  have hval : evVal (wrWord fsel val) = val := by
    apply BitVec.eq_of_toNat_eq
    rw [evVal_toNat, wrWord_toNat]
    omega
  rw [decodeEvent_of_kind_wr hkind, hfsel, hval]

theorem decodeInput_encWord (op : Byte) : decodeInput (eventInput (encWord op)) = decodeEnc op :=
  decodeEvent_encWord op []

theorem decodeInput_wrWord (fsel : BitVec 3) (val : Byte) :
    decodeInput (eventInput (wrWord fsel val)) = decodeWr fsel val :=
  decodeEvent_wrWord fsel val []

/-- A well-formed ENC_UNSUPPORTED carries none of the three opcodes with a row of their own (30_encoding.md R75). -/
theorem decodeEnc_of_wellFormed {op : Byte} (h : (Instr.encUnsupported op).wellFormed = true) :
    decodeEnc op = .encUnsupported op := by
  simp only [Instr.wellFormed, supportedOps, Bool.not_eq_true', List.contains_eq_mem, decide_eq_false_iff_not,
    List.mem_cons, List.not_mem_nil, or_false, not_or] at h
  obtain ⟨hreq, hset, hpair⟩ := h
  rw [decodeEnc, if_neg hreq, if_neg hset, if_neg hpair]

/-- A well-formed WR_RESERVED carries none of the six selects with a row of their own (30_encoding.md R76). -/
theorem decodeWr_of_wellFormed {fsel : BitVec 3} {val : Byte} (h : (Instr.wrReserved fsel val).wellFormed = true) :
    decodeWr fsel val = .wrReserved fsel val := by
  have hfsel : 6 ≤ fsel.toNat := of_decide_eq_true h
  have hne : ∀ k < 6, fsel.toNat ≠ k := fun k hk => by omega
  simp [decodeWr_eq, hne]

/-- The word of a reserved kind decodes to it (30_encoding.md R74). -/
theorem decodeInput_reservedKind {kind : BitVec 3} (h : (Instr.reservedEvent kind).wellFormed = true) :
    decodeInput (eventInput (kind.setWidth 32)) = .reservedEvent kind := by
  revert kind
  decide

/-- The ports a well-formed event is encoded as decode to it, under any configuration: event words carry no offset. -/
theorem decodeInput_of_encode {c : Cfg} {i : Instr} {inp : Input} (hw : i.wellFormed = true)
    (h : encode c i = .port inp) : decodeInput inp = i := by
  cases i with
  | nop | rx | tick | tdn | rst =>
    cases h
    rfl
  | encRequestState | encSetState | encPair =>
    cases h
    exact decodeInput_encWord _
  | encUnsupported op =>
    cases h
    exact (decodeInput_encWord op).trans (decodeEnc_of_wellFormed hw)
  | wrFan | wrHtemp | wrMode | wrHeater | wrPower | wrSound =>
    cases h
    exact decodeInput_wrWord _ _
  | wrReserved fsel val =>
    cases h
    exact (decodeInput_wrWord fsel val).trans (decodeWr_of_wellFormed hw)
  | reservedEvent kind =>
    cases h
    exact decodeInput_reservedKind hw
  | framePair | frameRequestState | frameSetState | frameTelemetry => cases h

/-! ## The frames the block produces and receives -/

theorem decodeReceived_toList (f : Frame) : decodeReceived f.toList = .ok (.frameTelemetry f) := by
  simp [decodeReceived]

theorem decodeProduced_pairFrame (c : Cfg) : decodeProduced c pairFrame.toList = .ok .framePair := by
  simp [decodeProduced]

theorem decodeProduced_reqFrame (c : Cfg) : decodeProduced c reqFrame.toList = .ok .frameRequestState := by
  have hne : reqFrame ≠ pairFrame := by decide
  simp [decodeProduced, hne]

/-- The three flags stand in their bits of the SetState flags byte (30_encoding.md R84). -/
theorem setStateFlags_bits (heater power sound : Bool) :
    (setStateFlags heater power sound).getLsbD 0 = heater ∧ (setStateFlags heater power sound).getLsbD 1 = power ∧
    (setStateFlags heater power sound).getLsbD 3 = sound := by
  revert heater power sound
  decide

/-- Under an allowed configuration the fields read from a SetState frame are those it was built from. -/
theorem readSetState_setStateFrame {c : Cfg} (h : c.wf) (fan htemp mode : Byte) (heater power sound : Bool) :
    readSetState c (setStateFrame c fan htemp mode heater power sound) =
      .frameSetState fan htemp mode heater power sound := by
  obtain ⟨hfan, hhtemp, hmode, hflags, -⟩ := setStateFrame_fields h fan htemp mode heater power sound
  obtain ⟨hheater, hpower, hsound⟩ := setStateFlags_bits heater power sound
  simp only [readSetState, hfan, hhtemp, hmode, hflags, hheater, hpower, hsound]

/-- Under an allowed configuration every SetState frame is recognized as one. -/
theorem isSetState_setStateFrame {c : Cfg} (h : c.wf) (fan htemp mode : Byte) (heater power sound : Bool) :
    isSetState c (setStateFrame c fan htemp mode heater power sound) = true := by
  obtain ⟨hfan, hhtemp, hmode, hflags, -⟩ := setStateFrame_fields h fan htemp mode heater power sound
  obtain ⟨hheater, hpower, hsound⟩ := setStateFlags_bits heater power sound
  simp only [isSetState, hfan, hhtemp, hmode, hflags, hheater, hpower, hsound, beq_self_eq_true]

/-- The opcode in byte 1 tells a SetState frame from the two constant frames. -/
theorem setStateFrame_ne_constant {c : Cfg} (h : c.wf) (fan htemp mode : Byte) (heater power sound : Bool) :
    setStateFrame c fan htemp mode heater power sound ≠ pairFrame ∧
    setStateFrame c fan htemp mode heater power sound ≠ reqFrame := by
  obtain ⟨-, hopcode, -, -⟩ := setStateFrame_envelope h fan htemp mode heater power sound
  constructor
  all_goals
    intro heq
    rw [heq] at hopcode
    exact absurd hopcode (by decide)

/-- A SetState frame decodes to the fields it was built from. -/
theorem decodeProduced_setStateFrame {c : Cfg} (h : c.wf) (fan htemp mode : Byte) (heater power sound : Bool) :
    decodeProduced c (setStateFrame c fan htemp mode heater power sound).toList =
      .ok (.frameSetState fan htemp mode heater power sound) := by
  obtain ⟨hpair, hreq⟩ := setStateFrame_ne_constant h fan htemp mode heater power sound
  simp only [decodeProduced, frameOf_toList, if_neg hpair, if_neg hreq, isSetState_setStateFrame h,
    readSetState_setStateFrame h, if_true]

/-- Settles O1: an event decodes back through its ports, a frame row through its bytes. -/
theorem decodeInvertsEncode : Obligations.DecodeInvertsEncode := by
  intro c i hc hw
  cases i with
  | framePair => exact decodeProduced_pairFrame c
  | frameRequestState => exact decodeProduced_reqFrame c
  | frameSetState fan htemp mode heater power sound =>
    exact decodeProduced_setStateFrame hc fan htemp mode heater power sound
  | frameTelemetry f => exact decodeReceived_toList f
  | _ => exact congrArg Except.ok (decodeInput_of_encode (c := c) hw rfl)

/-! ## The table's masks -/

/-- A mask cut at bit `k`: the bits from `k` on and those below. -/
theorem land_eq_high_add_low (k x m : Nat) :
    x &&& m = 2 ^ k * (x / 2 ^ k &&& m / 2 ^ k) + (x % 2 ^ k &&& m % 2 ^ k) := by
  rw [← Nat.and_div_two_pow, ← Nat.and_mod_two_pow, Nat.div_add_mod]

/-- A row accepts a word when the word's masked bits are the row's match, as numbers. -/
theorem TableRow.accepts_iff (r : TableRow) (ev : BitVec 32) :
    r.accepts ev = true ↔ ev.toNat &&& r.mask.toNat = r.bits.toNat := by
  rw [TableRow.accepts, beq_iff_eq, ← BitVec.toNat_inj, BitVec.toNat_and]

theorem land_seven (x : Nat) : x &&& 7 = x % 8 := Nat.and_two_pow_sub_one_eq_mod x 3

theorem land_six (x : Nat) : x &&& 6 = 2 * (x / 2 % 4) := by
  have hhigh : x / 2 &&& 3 = x / 2 % 4 := Nat.and_two_pow_sub_one_eq_mod (x / 2) 2
  simpa [hhigh] using land_eq_high_add_low 1 x 6

/-- The mask of `kind` and `op`. -/
theorem land_kind_op (x : Nat) : x &&& 0xFF07 = 256 * (x / 256 % 256) + x % 8 := by
  have hhigh : x / 256 &&& 255 = x / 256 % 256 := Nat.and_two_pow_sub_one_eq_mod (x / 256) 8
  have hcut := land_eq_high_add_low 8 x 0xFF07
  norm_num [hhigh, land_seven] at hcut
  omega

/-- A mask of `kind` and of some bits of `fsel`. -/
theorem land_kind_fsel (x m : Nat) : x &&& (65536 * m + 7) = 65536 * (x / 65536 &&& m) + x % 8 := by
  have hcut := land_eq_high_add_low 16 x (65536 * m + 7)
  have hhigh : (65536 * m + 7) / 65536 = m := by omega
  have hlow : (65536 * m + 7) % 65536 = 7 := by omega
  norm_num [hhigh, hlow, land_seven] at hcut
  omega


/-! ## Which words a row accepts, by the fields its mask covers -/

theorem accepts_kind_iff (ev : BitVec 32) {k : Nat} (hk : k < 8) :
    (⟨0x00000007#32, BitVec.ofNat 32 k⟩ : TableRow).accepts ev = true ↔ ev.toNat % 8 = k := by
  have hbits : (BitVec.ofNat 32 k).toNat = k := Nat.mod_eq_of_lt (by omega)
  have hmask := land_seven ev.toNat
  rw [TableRow.accepts_iff, hbits]
  change ev.toNat &&& 7 = _ ↔ _
  omega

theorem accepts_op_iff (ev : BitVec 32) {n : Nat} (hn : n < 256) :
    (⟨0x0000FF07#32, BitVec.ofNat 32 (256 * n + 2)⟩ : TableRow).accepts ev = true ↔
      ev.toNat % 8 = 2 ∧ ev.toNat / 256 % 256 = n := by
  have hbits : (BitVec.ofNat 32 (256 * n + 2)).toNat = 256 * n + 2 := Nat.mod_eq_of_lt (by omega)
  have hmask := land_kind_op ev.toNat
  rw [TableRow.accepts_iff, hbits]
  change ev.toNat &&& 0xFF07 = _ ↔ _
  omega

theorem accepts_fsel_iff (ev : BitVec 32) {n : Nat} (hn : n < 8) :
    (⟨0x00070007#32, BitVec.ofNat 32 (65536 * n + 3)⟩ : TableRow).accepts ev = true ↔
      ev.toNat % 8 = 3 ∧ ev.toNat / 65536 % 8 = n := by
  have hbits : (BitVec.ofNat 32 (65536 * n + 3)).toNat = 65536 * n + 3 := Nat.mod_eq_of_lt (by omega)
  have hmask := land_kind_fsel ev.toNat 7
  have hfsel := land_seven (ev.toNat / 65536)
  rw [TableRow.accepts_iff, hbits]
  change ev.toNat &&& (65536 * 7 + 7) = _ ↔ _
  omega

theorem accepts_wrReserved_iff (ev : BitVec 32) :
    (⟨0x00060007#32, 0x00060003#32⟩ : TableRow).accepts ev = true ↔
      ev.toNat % 8 = 3 ∧ 6 ≤ ev.toNat / 65536 % 8 := by
  have hmask := land_kind_fsel ev.toNat 6
  have hfsel := land_six (ev.toNat / 65536)
  rw [TableRow.accepts_iff]
  change ev.toNat &&& (65536 * 6 + 7) = 0x60003 ↔ _
  omega

theorem accepts_reservedEvent_iff (ev : BitVec 32) :
    (⟨0x00000006#32, 0x00000006#32⟩ : TableRow).accepts ev = true ↔ 6 ≤ ev.toNat % 8 := by
  have hmask := land_six ev.toNat
  rw [TableRow.accepts_iff]
  change ev.toNat &&& 6 = 6 ↔ _
  omega

/-! ## The decoded row is the widest accepting one (30_encoding.md R77) -/

/-- The row `r` of the table stands for the instruction `i` and accepts the word. -/
def IsRowFor (ev : BitVec 32) (i : Instr) (r : TableRow) : Prop :=
  eventRow i = some r ∧ r ∈ eventRows ∧ r.accepts ev = true

/-- The row of the opcode's own when it has one, else the row of kind 2 (30_encoding.md R75). -/
theorem decodeEnc_hasRow {ev : BitVec 32} (h : ev.toNat % 8 = 2) : ∃ r, IsRowFor ev (decodeEnc (evOp ev)) r := by
  rw [decodeEnc_eq, evOp_toNat]
  split_ifs with hreq hset hpair
  · exact ⟨_, rfl, by decide, (accepts_op_iff ev (n := 1) (by decide)).mpr ⟨h, hreq⟩⟩
  · exact ⟨_, rfl, by decide, (accepts_op_iff ev (n := 2) (by decide)).mpr ⟨h, hset⟩⟩
  · exact ⟨_, rfl, by decide, (accepts_op_iff ev (n := 5) (by decide)).mpr ⟨h, hpair⟩⟩
  · exact ⟨_, rfl, by decide, (accepts_kind_iff ev (by decide)).mpr h⟩

/-- Six selects have a row each and two share one (30_encoding.md R76). -/
theorem decodeWr_hasRow {ev : BitVec 32} (h : ev.toNat % 8 = 3) (val : Byte) :
    ∃ r, IsRowFor ev (decodeWr (evFsel ev) val) r := by
  rw [decodeWr_eq, evFsel_toNat]
  split_ifs with hfan hhtemp hmode hheater hpower hsound
  · exact ⟨_, rfl, by decide, (accepts_fsel_iff ev (n := 0) (by decide)).mpr ⟨h, hfan⟩⟩
  · exact ⟨_, rfl, by decide, (accepts_fsel_iff ev (n := 1) (by decide)).mpr ⟨h, hhtemp⟩⟩
  · exact ⟨_, rfl, by decide, (accepts_fsel_iff ev (n := 2) (by decide)).mpr ⟨h, hmode⟩⟩
  · exact ⟨_, rfl, by decide, (accepts_fsel_iff ev (n := 3) (by decide)).mpr ⟨h, hheater⟩⟩
  · exact ⟨_, rfl, by decide, (accepts_fsel_iff ev (n := 4) (by decide)).mpr ⟨h, hpower⟩⟩
  · exact ⟨_, rfl, by decide, (accepts_fsel_iff ev (n := 5) (by decide)).mpr ⟨h, hsound⟩⟩
  · exact ⟨_, rfl, by decide, (accepts_wrReserved_iff ev).mpr ⟨h, by omega⟩⟩

/-- Every event word has a row: the one of its kind, its opcode or its field select. -/
theorem decodeEvent_hasRow (ev : BitVec 32) (data : List Byte) : ∃ r, IsRowFor ev (decodeEvent ev data) r := by
  obtain ⟨h, hrow⟩ | ⟨h, hrow⟩ | ⟨h, hrow⟩ | ⟨h, hrow⟩ | ⟨h, hrow⟩ | ⟨h, hrow⟩ | ⟨h, hrow⟩ :=
    decodeEvent_cases ev data
  all_goals rw [hrow]
  · exact ⟨_, rfl, by decide, (accepts_kind_iff ev (by decide)).mpr h⟩
  · exact ⟨_, rfl, by decide, (accepts_kind_iff ev (by decide)).mpr h⟩
  · exact decodeEnc_hasRow h
  · exact decodeWr_hasRow h _
  · exact ⟨_, rfl, by decide, (accepts_kind_iff ev (by decide)).mpr h⟩
  · exact ⟨_, rfl, by decide, (accepts_kind_iff ev (by decide)).mpr h⟩
  · exact ⟨_, rfl, by decide, (accepts_reservedEvent_iff ev).mpr h⟩

/-- The row `q` stands for the instruction `i`, or a row with a wider mask does. -/
def RowAtMost (q : TableRow) (i : Instr) : Prop :=
  ∃ r, eventRow i = some r ∧ (q = r ∨ q.weight < r.weight)

theorem rowAtMost_of_eventRow {q : TableRow} {i : Instr} (h : eventRow i = some q) : RowAtMost q i :=
  ⟨q, h, .inl rfl⟩

/-- Only the row of kind 2 accepts a word of another row: an opcode's own mask is wider. -/
theorem encUnsupported_rowAtMost (op : Byte) : RowAtMost ⟨0x00000007#32, 0x00000002#32⟩ (decodeEnc op) := by
  unfold decodeEnc
  split_ifs
  · exact ⟨_, rfl, .inr (by decide)⟩
  · exact ⟨_, rfl, .inr (by decide)⟩
  · exact ⟨_, rfl, .inr (by decide)⟩
  · exact ⟨_, rfl, .inl rfl⟩

/-- A word of a supported opcode is the event of that opcode's row. -/
theorem op_rowAtMost {ev : BitVec 32} {n : Nat} {q : TableRow} (data : List Byte)
    (h : ev.toNat % 8 = 2 ∧ ev.toNat / 256 % 256 = n) (hq : eventRow (decodeEnc (BitVec.ofNat 8 n)) = some q) :
    RowAtMost q (decodeEvent ev data) := by
  obtain ⟨hkind, hop⟩ := h
  rw [decodeEvent_of_kind_enc hkind, eq_ofNat_of_toNat ((evOp_toNat ev).trans hop)]
  exact rowAtMost_of_eventRow hq

/-- A word of a field select is the event of that select's row, whatever its value. -/
theorem fsel_rowAtMost {ev : BitVec 32} {n : Nat} {q : TableRow} (data : List Byte)
    (h : ev.toNat % 8 = 3 ∧ ev.toNat / 65536 % 8 = n)
    (hq : ∀ val, eventRow (decodeWr (BitVec.ofNat 3 n) val) = some q) : RowAtMost q (decodeEvent ev data) := by
  obtain ⟨hkind, hfsel⟩ := h
  rw [decodeEvent_of_kind_wr hkind, eq_ofNat_of_toNat ((evFsel_toNat ev).trans hfsel)]
  exact rowAtMost_of_eventRow (hq _)

theorem wrReserved_rowAtMost {ev : BitVec 32} (data : List Byte)
    (h : ev.toNat % 8 = 3 ∧ 6 ≤ ev.toNat / 65536 % 8) :
    RowAtMost ⟨0x00060007#32, 0x00060003#32⟩ (decodeEvent ev data) := by
  obtain ⟨hkind, hfsel⟩ := h
  rw [← evFsel_toNat] at hfsel
  rw [decodeEvent_of_kind_wr hkind, decodeWr_of_wellFormed (decide_eq_true hfsel)]
  exact rowAtMost_of_eventRow rfl

theorem reservedEvent_rowAtMost {ev : BitVec 32} (data : List Byte) (h : 6 ≤ ev.toNat % 8) :
    RowAtMost ⟨0x00000006#32, 0x00000006#32⟩ (decodeEvent ev data) := by
  rw [decodeEvent_of_kind_reserved h]
  exact rowAtMost_of_eventRow rfl

/-- A row that accepts a word is the decoded row or has fewer mask bits. -/
theorem accepting_rowAtMost {ev : BitVec 32} {q : TableRow} (data : List Byte) (hq : q ∈ eventRows)
    (ha : q.accepts ev = true) : RowAtMost q (decodeEvent ev data) := by
  simp only [eventRows, List.mem_cons, List.not_mem_nil, or_false] at hq
  obtain rfl | rfl | rfl | rfl | rfl | rfl | rfl | rfl | rfl | rfl | rfl | rfl | rfl | rfl | rfl | rfl := hq
  · have hkind := (accepts_kind_iff ev (k := 0) (by decide)).mp ha
    exact rowAtMost_of_eventRow (by rw [decodeEvent_eq, hkind]; rfl)
  · have hkind := (accepts_kind_iff ev (k := 1) (by decide)).mp ha
    exact rowAtMost_of_eventRow (by rw [decodeEvent_eq, hkind]; rfl)
  · exact op_rowAtMost data ((accepts_op_iff ev (n := 1) (by decide)).mp ha) rfl
  · exact op_rowAtMost data ((accepts_op_iff ev (n := 2) (by decide)).mp ha) rfl
  · exact op_rowAtMost data ((accepts_op_iff ev (n := 5) (by decide)).mp ha) rfl
  · have hkind := (accepts_kind_iff ev (k := 2) (by decide)).mp ha
    rw [decodeEvent_of_kind_enc hkind]
    exact encUnsupported_rowAtMost _
  · exact fsel_rowAtMost data ((accepts_fsel_iff ev (n := 0) (by decide)).mp ha) (fun _ => rfl)
  · exact fsel_rowAtMost data ((accepts_fsel_iff ev (n := 1) (by decide)).mp ha) (fun _ => rfl)
  · exact fsel_rowAtMost data ((accepts_fsel_iff ev (n := 2) (by decide)).mp ha) (fun _ => rfl)
  · exact fsel_rowAtMost data ((accepts_fsel_iff ev (n := 3) (by decide)).mp ha) (fun _ => rfl)
  · exact fsel_rowAtMost data ((accepts_fsel_iff ev (n := 4) (by decide)).mp ha) (fun _ => rfl)
  · exact fsel_rowAtMost data ((accepts_fsel_iff ev (n := 5) (by decide)).mp ha) (fun _ => rfl)
  · exact wrReserved_rowAtMost data ((accepts_wrReserved_iff ev).mp ha)
  · have hkind := (accepts_kind_iff ev (k := 4) (by decide)).mp ha
    exact rowAtMost_of_eventRow (by rw [decodeEvent_eq, hkind]; rfl)
  · have hkind := (accepts_kind_iff ev (k := 5) (by decide)).mp ha
    exact rowAtMost_of_eventRow (by rw [decodeEvent_eq, hkind]; rfl)
  · exact reservedEvent_rowAtMost data ((accepts_reservedEvent_iff ev).mp ha)

/-- Settles O3: the decoded row accepts the word, and any other that does has a narrower mask. -/
theorem widestAcceptingRowWins : Obligations.WidestAcceptingRowWins := by
  intro ev data
  obtain ⟨r, hrow, hmem, hr⟩ := decodeEvent_hasRow ev data
  refine ⟨r, hrow, hmem, hr, fun q hq ha => ?_⟩
  obtain ⟨r', hrow', hle⟩ := accepting_rowAtMost data hq ha
  obtain rfl : r = r' := Option.some.inj (hrow.symm.trans hrow')
  obtain rfl | hlt := hle
  · exact ⟨le_rfl, fun _ => rfl⟩
  · exact ⟨hlt.le, fun heq => absurd heq hlt.ne⟩

end Sys2Proof.Machine
end

section
/-! PROOFS. How an event of 30_encoding.md runs: a step runs its decoded event (R70), placed table words (log entry 5), the assembler forms (R86, R87), the command frame rows (R81, log entry 4) and the reset pin (R73). -/

namespace Sys2Proof.Machine

/-! ## The event presented next -/

/-- Settles O5: a step takes the head of the queue, and an encoded event decodes to itself. -/
theorem stepRunsDecodedEvent : Obligations.StepRunsDecodedEvent := by
  refine ⟨fun s inp rest hq => step_cons hq, fun s i inp rest hw he hq => ?_⟩
  rw [step_cons hq, decodeInput_of_encode hw he]
  rfl

/-- Presenting an event and stepping runs it on the state as it was. -/
theorem step_presentNext (s : State) (inp : Input) : step (s.presentNext inp) = exec (decodeInput inp) s :=
  step_cons (s := s.presentNext inp) rfl

/-- A table word of at most 32 bits is an event word with `rst` = 0 and no data (log entry 5). -/
theorem tableCode_of_le {nbits : Nat} (c : Cfg) (w : Nat) (h : nbits ≤ 32) :
    tableCode c nbits w = some (.port (eventInput (BitVec.ofNat 32 (w % 2 ^ nbits)))) := by
  have hword : w % 2 ^ nbits < 2 ^ 32 :=
    (Nat.mod_lt w (Nat.two_pow_pos nbits)).trans_le (Nat.pow_le_pow_right (by decide) h)
  have hformat : nbits ≤ 40 := by omega
  simp only [tableCode, if_pos hformat, Nat.testBit_lt_two_pow hword, eventInput]

/-- Settles O7: the word is presented as an event with `rst` = 0, which the next step takes. -/
theorem placedTableWordRunsNext : Obligations.PlacedTableWordRunsNext := by
  intro s nbits w h
  have hplaced : s.withFetchWord nbits w = s.presentNext (eventInput (BitVec.ofNat 32 (w % 2 ^ nbits))) := by
    simp only [State.withFetchWord, State.placeTableWord, tableCode_of_le s.cfg w h]
  rw [hplaced]
  exact step_presentNext s _

/-! ## The assembler -/

/-- Settles O8: ENC and WR by their words, TICKS by its count, every other form by its one word. -/
theorem assemblerFormsDecode : Obligations.AssemblerFormsDecode := by
  have hdecodeEnc (op : Byte) : ∃ inp, assemble (.enc op) = [inp] ∧ inp.rst = false ∧
      inp.ev.toNat = 2 + 256 * op.toNat ∧ decodeInput inp = decodeEnc op :=
    ⟨eventInput (encWord op), rfl, rfl, encWord_toNat op, decodeInput_encWord op⟩
  have hdecodeWr (field : AsmField) (val : Byte) : ∃ inp, assemble (.wr field val) = [inp] ∧ inp.rst = false ∧
      inp.ev.toNat = 3 + 256 * val.toNat + 65536 * field.fsel.toNat ∧ decodeInput inp = decodeWr field.fsel val :=
    ⟨eventInput (wrWord field.fsel val), rfl, rfl, wrWord_toNat field.fsel val, decodeInput_wrWord field.fsel val⟩
  exact ⟨rfl, fun _ => ⟨rfl, rfl⟩, hdecodeEnc, hdecodeWr, rfl, rfl, rfl, rfl, rfl, rfl,
    fun n => List.map_replicate⟩

/-! ## The command frame rows -/

/-- At the default offsets the SetState frame is R81's twenty bytes (30_encoding.md R81, R84). -/
theorem setStateFrame_toList {c : Cfg} (h : c.defaultLayout) (fan htemp mode : Byte) (heater power sound : Bool) :
    (setStateFrame c fan htemp mode heater power sound).toList =
      [0x3D, 0x02, 0x00, fan, htemp, mode, BitVec.ofNat 8 (heater.toNat + 2 * power.toNat + 8 * sound.toNat),
        0x01, 0, 0, 0, 0, 0, 0, 0, 0, 0, 0, 0, 0x5A] := by
  obtain ⟨hfan, hhtemp, hmode, hflags, hconst, hval⟩ := h
  rw [setStateFrame, hfan, hhtemp, hmode, hflags, hconst, hval,
    eq_ofNat_of_toNat (setStateFlags_toNat heater power sound)]
  rfl

/-- Under an allowed configuration the SetState frame shows its fields where the configuration puts them (00_scope.md R9). -/
theorem setStateFrame_showsSettable {c : Cfg} (h : c.wf) (fan htemp mode : Byte) (heater power sound : Bool) :
    showsSettable c (setStateFrame c fan htemp mode heater power sound) fan htemp mode heater power sound := by
  obtain ⟨hfan, hhtemp, hmode, hflags, -⟩ := setStateFrame_fields h fan htemp mode heater power sound
  exact ⟨hfan, hhtemp, hmode, (congrArg BitVec.toNat hflags).trans (setStateFlags_toNat heater power sound)⟩

/-- Settles O16: each row emits the frame that its event emits, and a SetState frame shows what it was given. -/
theorem commandFrameRowsCrossFrameOut : Obligations.CommandFrameRowsCrossFrameOut := by
  intro s
  refine ⟨⟨_, exec_framePair s, exec_encPair s⟩, ⟨_, exec_frameRequestState s, exec_encRequestState s⟩, ?_, rfl⟩
  intro fan htemp mode heater power sound
  exact ⟨_, exec_frameSetState s fan htemp mode heater power sound,
    fun h => setStateFrame_showsSettable h fan htemp mode heater power sound,
    fun h => setStateFrame_toList h fan htemp mode heater power sound⟩

/-! ## The reset pin -/

/-- Settles O40: RST restores every register, and an input with `rst` = 1 decodes to RST whatever else it carries. -/
theorem resetPinOverridesEvent : Obligations.ResetPinOverridesEvent := by
  intro s ev data rest
  have hrst : decodeInput ⟨true, ev, data⟩ = .rst := rfl
  refine ⟨exec_rst s, fun hq => ?_⟩
  rw [step_cons hq, hrst]
  rfl

end Sys2Proof.Machine
end

section
/-! PROOFS. The command frame encoder (40_command_encode.md): the ENC events' decode (30_encoding.md R75), the three frames (R101 to R103, R106), the refused opcodes (R105) and the registers no ENC event writes (R104). -/

namespace Sys2Proof.Machine

/-! ## The row of an ENC word -/

/-- An event word of kind 2 selects the ENC row of its second byte (30_encoding.md R75). -/
theorem decodeInput_of_kind_enc {inp : Input} {op : Byte} (hrst : inp.rst = false) (hkind : inp.ev.toNat % 8 = 2)
    (hop : inp.ev.toNat / 256 % 256 = op.toNat) : decodeInput inp = decodeEnc op := by
  have hev : evOp inp.ev = op := BitVec.eq_of_toNat_eq ((evOp_toNat inp.ev).trans hop)
  rw [decodeInput_of_rst_false hrst, decodeEvent_of_kind_enc hkind, hev]

/-! ## No ENC event writes a register -/

/-- Every ENC row only writes the output record, and puts nothing on the watchdog's outputs (40_command_encode.md R104). -/
theorem exec_decodeEnc_withOut (op : Byte) (s : State) :
    ∃ o : Out, exec (decodeEnc op) s = .next (s.withOut o) ∧ o.wdTx = none ∧ o.stale = false := by
  unfold decodeEnc
  split_ifs
  · exact ⟨{ Out.idle with frameOut := some reqFrame }, exec_encRequestState s, rfl, rfl⟩
  · exact ⟨{ Out.idle with frameOut := some (s.dev.setStateFrame s.cfg) }, exec_encSetState s, rfl, rfl⟩
  · exact ⟨{ Out.idle with frameOut := some pairFrame }, exec_encPair s, rfl, rfl⟩
  · exact ⟨{ Out.idle with status := .unsupportedOpcode op }, exec_encUnsupported s op, rfl, rfl⟩

/-- Settles O14: the event is an ENC row, and those only write the output record. -/
theorem encWritesNoRegister : Obligations.EncWritesNoRegister := by
  intro s inp hrst hkind
  obtain ⟨o, hexec, htx, hstale⟩ := exec_decodeEnc_withOut (evOp inp.ev) s
  have hrow : decodeInput inp = decodeEnc (evOp inp.ev) :=
    decodeInput_of_kind_enc hrst hkind (evOp_toNat inp.ev).symm
  exact ⟨s.withOut o, hrow ▸ hexec, s.withOut_dev o, s.withOut_wd o, s.withOut_inputs o, htx, hstale⟩

/-! ## The frames put out -/

/-- The Pair frame's twenty bytes (30_encoding.md R81). -/
theorem pairFrame_toList : pairFrame.toList =
    [0x3D, 0x05, 0x01, 0, 0, 0, 0, 0, 0, 0, 0, 0, 0, 0, 0, 0, 0, 0, 0, 0x5A] := by
  decide

/-- The RequestState frame's twenty bytes (30_encoding.md R81). -/
theorem reqFrame_toList : reqFrame.toList =
    [0x3D, 0x01, 0, 0, 0, 0, 0, 0, 0, 0, 0, 0, 0, 0, 0, 0, 0, 0, 0, 0x5A] := by
  decide

/-- A TICK transmits no frame but `reqFrame` (43_watchdog.md R174). -/
theorem State.tickWatchdog_wdTx {s t : State} {f : Frame} (h : s.tickWatchdog = .next t)
    (hf : t.out.wdTx = some f) : f = reqFrame := by
  obtain ⟨-, htx, -⟩ | ⟨-, -, hfire⟩ := State.tickWatchdog_out h
  · simp [htx] at hf
  · simpa [hfire] using hf.symm

/-- Settles O9: ENC_PAIR emits the Pair frame, which reads no state. -/
theorem pairFrameIsConstant : Obligations.PairFrameIsConstant :=
  ⟨fun _ hrst hkind hop => decodeInput_of_kind_enc (op := opcPair) hrst hkind hop,
   fun s => ⟨pairFrame, exec_encPair s, pairFrame_toList⟩⟩

/-- Settles O10: ENC_REQUEST_STATE emits `reqFrame`, and so does a firing TICK on `wd_tx`. -/
theorem requestFrameIsConstant : Obligations.RequestFrameIsConstant := by
  refine ⟨fun _ hrst hkind hop => decodeInput_of_kind_enc (op := opcRequestState) hrst hkind hop,
    fun s => ⟨reqFrame, exec_encRequestState s, reqFrame_toList⟩, fun s t f h hf => ?_⟩
  rw [State.tickWatchdog_wdTx h hf]
  exact reqFrame_toList

/-- Settles O11: ENC_SET_STATE emits the bank's SetState frame, at the default offsets R81's twenty bytes. -/
theorem setStateFrameCarriesFields : Obligations.SetStateFrameCarriesFields :=
  ⟨fun _ hrst hkind hop => decodeInput_of_kind_enc (op := opcSetState) hrst hkind hop,
   fun s hlayout => ⟨s.dev.setStateFrame s.cfg, exec_encSetState s, setStateFrame_toList hlayout _ _ _ _ _ _⟩⟩

/-- Settles O15: the two constant frames by their bytes, the SetState frame because R9's offsets spare bytes 0, 1, 2 and 19. -/
theorem supportedFrameShape : Obligations.SupportedFrameShape := by
  rintro s op hcfg (rfl | rfl | rfl)
  · exact ⟨_, reqFrame, exec_encRequestState s, rfl, rfl, reqFrame.length_toList, rfl, rfl, rfl, rfl⟩
  · obtain ⟨b0, b1, b2, b19⟩ := setStateFrame_envelope hcfg s.dev.fanSpeed s.dev.heaterTemperature
      s.dev.airIntakeMode s.dev.heaterOn s.dev.powerOn s.dev.soundOn
    exact ⟨_, s.dev.setStateFrame s.cfg, exec_encSetState s, rfl, rfl, Vector.length_toList, b0, b19, b1, b2⟩
  · exact ⟨_, pairFrame, exec_encPair s, rfl, rfl, pairFrame.length_toList, rfl, rfl, rfl, rfl⟩

/-! ## The refused opcodes -/

/-- Settles O13: an opcode other than the three is a well-formed operand of ENC_UNSUPPORTED, which raises its status. -/
theorem unsupportedOpcodeIsRefused : Obligations.UnsupportedOpcodeIsRefused := by
  intro s op hreq hset hpair
  have hw : (Instr.encUnsupported op).wellFormed = true := by
    simpa [Instr.wellFormed, supportedOps, opcRequestState, opcSetState, opcPair] using And.intro hreq ⟨hset, hpair⟩
  exact ⟨fun _ hrst hkind hop => (decodeInput_of_kind_enc hrst hkind hop).trans (decodeEnc_of_wellFormed hw),
    exec_encUnsupported s op, rfl⟩

end Sys2Proof.Machine
end

section
/-! PROOFS. The telemetry decoder (41_telemetry_decode.md): the operand functions (R125, R128 to R133, R143), RX of a wrong length (R121), the envelope flag (R122, R123), the payload fields (R124, R139) and the `pct` port (R144). -/

namespace Sys2Proof.Machine

/-! ## The sign decoder -/

/-- Bit 7 of a byte is its sign, and the mask `0x7F` keeps the other seven bits (41_telemetry_decode.md R128). -/
theorem sdec8_eq (v : Byte) :
    sdec8 v = if v.toNat < 128 then (v.toNat : Int) else -(128 - ((v.toNat % 128 : Nat) : Int)) := by
  have hsign : v.getLsbD 7 = decide (128 ≤ v.toNat) := BitVec.msb_eq_getLsbD_last v ▸ BitVec.msb_eq_decide v
  have hlow : (v &&& 0x7F#8).toNat = v.toNat % 128 := Nat.and_two_pow_sub_one_eq_mod v.toNat 7
  simp only [sdec8, hsign, hlow, decide_eq_false_iff_not, not_le]

theorem sdec8_eq_toInt (v : Byte) : sdec8 v = v.toInt := by
  have hlt := v.isLt
  rw [sdec8_eq, BitVec.toInt_eq_toNat_cond]
  split_ifs
  all_goals omega

theorem sdec8_range (v : Byte) : -128 ≤ sdec8 v ∧ sdec8 v ≤ 127 := by
  rw [sdec8_eq_toInt]
  exact ⟨v.le_toInt, v.toInt_le⟩

/-- The s8 field written with a decoded byte holds the byte itself (41_telemetry_decode.md R128). -/
theorem s8_sdec8 (v : Byte) : s8 (sdec8 v) = v := by
  rw [sdec8_eq_toInt]
  exact BitVec.ofInt_toInt

/-- An s8 field shows every value of its range (00_scope.md R16). -/
theorem s8_toInt {x : Int} (hlo : -128 ≤ x) (hhi : x ≤ 127) : (s8 x).toInt = x :=
  BitVec.toInt_ofInt_eq_self (by decide) hlo (Int.lt_add_one_of_le hhi)

/-- Settles O23: the sign bit and the low seven bits give the two's-complement value. -/
theorem signDecodeIsTwosComplement : Obligations.SignDecodeIsTwosComplement := by
  intro v
  obtain ⟨hlo, hhi⟩ := sdec8_range v
  exact ⟨sdec8_eq v, sdec8_eq_toInt v, hlo, hhi, s8_sdec8 v⟩

/-! ## Temperature fusion -/

/-- The sum of the substituted operands, each substitution from the original values (41_telemetry_decode.md R130). -/
def fuseSum (a b : Int) : Int := (if a ≤ 0 then b else a) + (if b ≤ 0 then a else b)

theorem fuse_eq (a b : Int) : fuse a b = fuseSum a b / 2 := fdiv_two _

/-- Only a non-positive operand beside a positive one is substituted; two non-positive ones change places. -/
theorem fuseSum_cases (a b : Int) :
    (0 < a → 0 < b → fuseSum a b = a + b) ∧ (a ≤ 0 → 0 < b → fuseSum a b = b + b) ∧
    (0 < a → b ≤ 0 → fuseSum a b = a + a) ∧ (a ≤ 0 → b ≤ 0 → fuseSum a b = a + b) := by
  unfold fuseSum
  split_ifs
  all_goals omega

theorem fuseSum_comm (a b : Int) : fuseSum a b = fuseSum b a := Int.add_comm _ _

theorem fuseSum_range {a b : Int} (ha : -128 ≤ a ∧ a ≤ 127) (hb : -128 ≤ b ∧ b ≤ 127) :
    -256 ≤ fuseSum a b ∧ fuseSum a b ≤ 254 := by
  unfold fuseSum
  split_ifs
  all_goals omega

theorem fuse_range {a b : Int} (ha : -128 ≤ a ∧ a ≤ 127) (hb : -128 ≤ b ∧ b ≤ 127) :
    -128 ≤ fuse a b ∧ fuse a b ≤ 127 := by
  have hsum := fuseSum_range ha hb
  rw [fuse_eq]
  omega

/-- Nine bits hold the sum, and the arithmetic shift halves it towards minus infinity (41_telemetry_decode.md R130). -/
theorem fuse_nineBit {a b : Int} (ha : -128 ≤ a ∧ a ≤ 127) (hb : -128 ≤ b ∧ b ≤ 127) :
    ((BitVec.ofInt 9 (fuseSum a b)).sshiftRight 1).toInt = fuse a b := by
  obtain ⟨hlo, hhi⟩ := fuseSum_range ha hb
  have hfits : (BitVec.ofInt 9 (fuseSum a b)).toInt = fuseSum a b :=
    BitVec.toInt_ofInt_eq_self (by decide) hlo (by omega)
  rw [BitVec.toInt_sshiftRight, hfits, fuse_eq]
  exact Int.shiftRight_eq_div_pow _ 1

/-- Settles O24: every clause is about the sum, halved. -/
theorem fusionByCases : Obligations.FusionByCases := by
  refine ⟨fun a b => ?_, by decide⟩
  obtain ⟨hpos, hright, hleft, hneg⟩ := fuseSum_cases a b
  refine ⟨fuse_eq a b, fun ha hb => ?_, fun ha hb => ?_, fun ha hb => ?_, fun ha hb => ?_, ?_, ?_⟩
  · rw [fuse_eq, hpos ha hb]
  · rw [fuse_eq, hright ha hb]
    omega
  · rw [fuse_eq, hleft ha hb]
    omega
  · rw [fuse_eq, hneg ha hb]
  · rw [fuse_eq, fuse_eq, fuseSum_comm]
  · intro ha ha' hb hb' sum
    obtain ⟨hlo, hhi⟩ := fuseSum_range ⟨ha, ha'⟩ ⟨hb, hb'⟩
    obtain ⟨hlo', hhi'⟩ := fuse_range ⟨ha, ha'⟩ ⟨hb, hb'⟩
    exact ⟨hhi, hlo, hhi', hlo', fuse_nineBit ⟨ha, ha'⟩ ⟨hb, hb'⟩⟩

/-! ## The filter-day word and the percentage -/

theorem word16_toNat (lo hi : Byte) : (word16 lo hi).toNat = lo.toNat + hi.toNat * 256 := by
  have hlo := lo.isLt
  have hhi := hi.isLt
  rw [word16, BitVec.toNat_ofNat, Nat.mod_eq_of_lt (by omega)]

/-- A word in 1..360 fits the u9 field and is kept; any other gives the fallback (41_telemetry_decode.md R133). -/
theorem normDays_toNat (v : BitVec 16) :
    (normDays v).toNat = if 1 ≤ v.toNat ∧ v.toNat ≤ 360 then v.toNat else 1 := by
  by_cases hin : 1 ≤ v.toNat ∧ v.toNat ≤ 360
  · have hkept : ¬ (v.toNat ≤ 0 ∨ filterMax < v.toNat) := by simp only [filterMax]; omega
    rw [normDays, if_neg hkept, if_pos hin, BitVec.toNat_ofNat, Nat.mod_eq_of_lt (by omega)]
  · have hout : v.toNat ≤ 0 ∨ filterMax < v.toNat := by simp only [filterMax]; omega
    rw [normDays, if_pos hout, if_neg hin]
    rfl

/-- Settles O25: the word's two bytes as one number, and its normalization by cases. -/
theorem filterDaysNormalize : Obligations.FilterDaysNormalize :=
  ⟨word16_toNat, fun v => ⟨normDays_toNat v, normDays_range v⟩⟩

theorem pct_of_out {d : Int} (h : d < 1 ∨ 360 < d) : pct d = 1 := if_pos h

theorem pct_of_in {d : Int} (hlo : 1 ≤ d) (hhi : d ≤ 360) : pct d = d * 100 / 360 := by
  have hin : ¬ (d < 1 ∨ (filterMax : Int) < d) := by simp only [filterMax]; omega
  rw [pct, if_neg hin, fdiv_360]

theorem pct_range (d : Int) : 0 ≤ pct d ∧ pct d ≤ 100 := by
  by_cases h : d < 1 ∨ 360 < d
  · rw [pct_of_out h]
    decide
  · rw [pct_of_in (by omega) (by omega)]
    omega

/-- Settles O26: the clamp outside 1..360 and the floor inside. -/
theorem percentageFunction : Obligations.PercentageFunction :=
  ⟨fun d => ⟨pct_of_out, pct_of_in, pct_range d⟩, by decide⟩

/-! ## The `pct` port -/

/-- Seven bits hold every percentage. -/
theorem State.readPorts_pct_toNat (s : State) :
    (s.readPorts.pct.toNat : Int) = pct (s.dev.resourceFiltersDays.toNat : Int) := by
  obtain ⟨hlo, hhi⟩ := pct_range s.dev.resourceFiltersDays.toNat
  change ((BitVec.ofInt 7 (pct s.dev.resourceFiltersDays.toNat)).toNat : Int) = _
  rw [BitVec.toNat_ofInt]
  omega

/-- Settles O27: the port shows `pct`, which the range of the field keeps off its clamp branch; no port reads `W.count`. -/
theorem readPortsShowPercentage : Obligations.ReadPortsShowPercentage := by
  refine ⟨fun s hdays => ?_, fun s => ⟨rfl, rfl, s.readPorts_pct_toNat⟩, fun _ _ => rfl⟩
  obtain ⟨hlo, hhi⟩ := hdays
  have hport := s.readPorts_pct_toNat
  rw [pct_of_in (by omega) (by omega)] at hport
  omega

/-! ## RX of a wrong length -/

/-- Settles O17: RX of any other length raises INVALID_LENGTH. -/
theorem wrongLengthIsDiscarded : Obligations.WrongLengthIsDiscarded :=
  fun s _ hlen => ⟨congrArg Host.Outcome.next (s.receive_of_length_ne hlen), rfl⟩

/-! ## RX of a frame -/

theorem exec_rx_frame (f : Frame) (s : State) : exec (.rx f.toList) s = .next (s.acceptTelemetry f) :=
  congrArg Host.Outcome.next (s.receive_of_frame f)

/-- A mismatch of byte 0, of byte 19 or of a checked byte 1 (41_telemetry_decode.md R122). -/
theorem envelopeUnexpected_iff (c : Cfg) (f : Frame) : envelopeUnexpected c f = true ↔
    f[0] ≠ 0x3D#8 ∨ f[19] ≠ 0x5A#8 ∨ ∃ r, c.respCodeCheck = some r ∧ f[1] ≠ r := by
  unfold envelopeUnexpected
  cases c.respCodeCheck with
  | none => simp [rxByte, hdrMagic, trlMagic]
  | some r => simp [rxByte, hdrMagic, trlMagic, or_assoc]

/-- Settles O19: acceptance commits and re-arms without reading the flag. -/
theorem envelopeFlagNeverBlocks : Obligations.EnvelopeFlagNeverBlocks :=
  fun s f => ⟨s.acceptTelemetry f, exec_rx_frame f s, envelopeUnexpected_iff s.cfg f, rfl, rfl, rfl⟩

/-- Settles O22: both events are the acceptance of the frame. -/
theorem telemetryFrameRowIsAccepted : Obligations.TelemetryFrameRowIsAccepted :=
  fun s f hcfg => ⟨s.acceptTelemetry f, exec_frameTelemetry s f, exec_rx_frame f s, rfl, rfl,
    Watchdog.armed_count_toNat hcfg, rfl, rfl, rfl, rfl, rfl⟩

/-! ## The payload bytes a bank is decoded from -/

/-- `p(k)` is byte k + 2 of the frame (20_memory.md R52). -/
theorem payload_eq (f : Frame) (k : Fin 17) : payload f k = f[k.val + 2] := by
  simp only [payload, rxByte, payloadOff, Nat.add_comm]

/-- Settles O21: each field is a function of payload bytes, or of payload bits, on which the frames agree. -/
theorem unreadPayloadIsIgnored : Obligations.UnreadPayloadIsIgnored := by
  intro c f g hbytes hflags hpresets
  have hbyte (k : Fin 17) (hk : k ∈ [0, 1, 4, 5, 6, 7, 8, 9, c.timeHourOff, c.timeMinOff, c.productivityOff]) :
      payload f k = payload g k :=
    (payload_eq f k).trans ((hbytes k hk).trans (payload_eq g k).symm)
  have hflag (b : Nat) (hb : b ∈ [0, 1, 2, 3, 5]) : (payload f 2).getLsbD b = (payload g 2).getLsbD b := hflags b hb
  have hpreset : flagPresets c f = flagPresets c g := by
    rw [flagPresets, flagPresets, payload_eq, payload_eq, hpresets]
  have hout : fuse (sdec8 (payload f 4)) (sdec8 (payload f 5)) = fuse (sdec8 (payload g 4)) (sdec8 (payload g 5)) := by
    rw [hbyte 4 (by simp), hbyte 5 (by simp)]
  have hdays : word16 (payload f 7) (payload f 8) = word16 (payload g 7) (payload g 8) := by
    rw [hbyte 7 (by simp), hbyte 8 (by simp)]
  simp only [decodePayload, DeviceState.mk.injEq]
  exact ⟨congrArg lowNibble (hbyte 0 (by simp)), congrArg highNibble (hbyte 0 (by simp)),
    hflag 0 (by simp), hflag 1 (by simp), hflag 2 (by simp), hflag 3 (by simp), hflag 5 (by simp), hpreset,
    hbyte 1 (by simp), congrArg (fun v => s8 (sdec8 v)) (hbyte 6 (by simp)), congrArg s8 hout, congrArg normDays hdays,
    hbyte 9 (by simp), hbyte c.timeHourOff (by simp), hbyte c.timeMinOff (by simp), hbyte c.productivityOff (by simp)⟩

/-- Settles O20: a bank is decoded from the payload, bytes 2 to 18, and acceptance reads the other three bytes for the envelope flag alone. -/
theorem envelopeBytesStayOutOfState : Obligations.EnvelopeBytesStayOutOfState := by
  intro s f g hagree
  have hpayload (k : Fin 17) : f[k.val + 2] = g[k.val + 2] :=
    hagree ⟨k.val + 2, by omega⟩ (Nat.le_add_left 2 k.val) (by simp only; omega)
  have hdev : decodePayload s.cfg f = decodePayload s.cfg g :=
    unreadPayloadIsIgnored s.cfg f g (fun k _ => hpayload k) (fun b _ => congrArg (·.getLsbD b) (hpayload 2))
      (congrArg (·.getLsbD s.cfg.presetsBit.val) (hpayload s.cfg.presetsByte))
  exact ⟨s.acceptTelemetry f, s.acceptTelemetry g, exec_rx_frame f s, exec_rx_frame g s, hdev.symm,
    rfl, rfl, rfl, rfl, rfl, rfl, rfl⟩

/-! ## The decoded fields in arithmetic -/

theorem lowNibble_toNat (v : Byte) : (lowNibble v).toNat = v.toNat % 16 := by
  have hlt := v.isLt
  rw [lowNibble, BitVec.toNat_setWidth, BitVec.extractLsb'_toNat, Nat.shiftRight_zero]
  omega

theorem highNibble_toNat (v : Byte) : (highNibble v).toNat = v.toNat / 16 := by
  have hlt := v.isLt
  rw [highNibble, BitVec.toNat_setWidth, BitVec.extractLsb'_toNat, Nat.shiftRight_eq_div_pow]
  omega

theorem decodePayload_temperatureOut_toInt (c : Cfg) (f : Frame) :
    (decodePayload c f).temperatureOut.toInt = fuseSum (payload f 4).toInt (payload f 5).toInt / 2 := by
  obtain ⟨hlo, hhi⟩ := fuse_range (sdec8_range (payload f 4)) (sdec8_range (payload f 5))
  change (s8 (fuse (sdec8 (payload f 4)) (sdec8 (payload f 5)))).toInt = _
  rw [s8_toInt hlo hhi, fuse_eq, sdec8_eq_toInt, sdec8_eq_toInt]

/-- Settles O18: RX of 20 bytes accepts the frame they are, and each field of the bank is one function of its payload bytes. -/
theorem telemetryCommitsPayload : Obligations.TelemetryCommitsPayload := by
  intro s data hcfg hlen p a b days
  obtain ⟨f, rfl, -⟩ | ⟨hne, -⟩ := s.receive_cases data
  · have hp (k : Fin 17) : payload f k = p k.val := by
      have hk : k.val + 2 < 20 := by omega
      simp [p, payload_eq, hk]
    have hdays : (normDays (word16 (payload f 7) (payload f 8))).toNat = if days = 0 ∨ 360 < days then 1 else days := by
      rw [normDays_toNat, word16_toNat, hp 7, hp 8]
      change (if 1 ≤ days ∧ days ≤ 360 then days else 1) = _
      split_ifs
      all_goals omega
    have hout := decodePayload_temperatureOut_toInt s.cfg f
    rw [hp 4, hp 5] at hout
    exact ⟨s.acceptTelemetry f, exec_rx_frame f s,
      hp 0 ▸ lowNibble_toNat (payload f 0), hp 0 ▸ highNibble_toNat (payload f 0),
      congrArg (·.getLsbD 0) (hp 2), congrArg (·.getLsbD 1) (hp 2), congrArg (·.getLsbD 2) (hp 2),
      congrArg (·.getLsbD 3) (hp 2), congrArg (·.getLsbD 5) (hp 2), hp 1,
      congrArg BitVec.toInt ((s8_sdec8 _).trans (hp 6)), hout, hdays, hp 9,
      hp s.cfg.timeHourOff, hp s.cfg.timeMinOff, congrArg (·.getLsbD s.cfg.presetsBit.val) (hp s.cfg.presetsByte),
      hp s.cfg.productivityOff, rfl, Watchdog.armed_count_toNat hcfg, rfl, rfl, rfl, rfl, rfl⟩
  · exact absurd hlen hne

end Sys2Proof.Machine
end

section
/-! PROOFS. Host writes (42_state_write.md): the WR events' decode (30_encoding.md R76), the values stored (R161 to R166), the refused selects (R167), what a WR event leaves unchanged (R160) and who writes the bank (R168, 10_state.md R23). -/

namespace Sys2Proof.Machine

/-! ## The row of a WR word -/

/-- An event word of kind 3 selects the WR row of its field select, with its second byte (30_encoding.md R76). -/
theorem decodeInput_of_kind_wr {inp : Input} {fsel : BitVec 3} {val : Byte} (hrst : inp.rst = false)
    (hkind : inp.ev.toNat % 8 = 3) (hfsel : inp.ev.toNat / 65536 % 8 = fsel.toNat)
    (hval : inp.ev.toNat / 256 % 256 = val.toNat) : decodeInput inp = decodeWr fsel val := by
  have hsel : evFsel inp.ev = fsel := BitVec.eq_of_toNat_eq ((evFsel_toNat inp.ev).trans hfsel)
  have hbyte : evVal inp.ev = val := BitVec.eq_of_toNat_eq ((evVal_toNat inp.ev).trans hval)
  rw [decodeInput_of_rst_false hrst, decodeEvent_of_kind_wr hkind, hsel, hbyte]

/-- The word with its ignored bits 0 (30_encoding.md R86) selects that row. -/
theorem decodeInput_of_word_wr {inp : Input} {fsel : BitVec 3} {val : Byte} (hrst : inp.rst = false)
    (hev : inp.ev.toNat = 65536 * fsel.toNat + 3 + 256 * val.toNat) : decodeInput inp = decodeWr fsel val := by
  have hfsel := fsel.isLt
  have hval := val.isLt
  exact decodeInput_of_kind_wr hrst (by omega) (by omega) (by omega)

/-! ## The values stored -/

/-- Settles O28: each of the three rows is a host write of the whole byte, and its word carries its select. -/
theorem byteWritesStoreValue : Obligations.ByteWritesStoreValue :=
  fun s val => ⟨exec_wrFan s val, exec_wrHtemp s val, exec_wrMode s val, fun _ hrst =>
    ⟨fun hev => decodeInput_of_word_wr (fsel := 0) hrst hev,
     fun hev => decodeInput_of_word_wr (fsel := 1) hrst hev,
     fun hev => decodeInput_of_word_wr (fsel := 2) hrst hev⟩⟩

/-- `val[0]` is the parity of `val` (30_encoding.md R85). -/
theorem boolOperand_eq (val : Byte) : boolOperand val = decide (val.toNat % 2 = 1) :=
  Nat.testBit_zero val.toNat

/-- Settles O29: each of the three rows is a host write of `val[0]`, and its word carries its select. -/
theorem flagWritesStoreLowBit : Obligations.FlagWritesStoreLowBit := by
  intro s val
  rw [← boolOperand_eq]
  exact ⟨exec_wrHeater s val, exec_wrPower s val, exec_wrSound s val, fun _ hrst =>
    ⟨fun hev => decodeInput_of_word_wr (fsel := 3) hrst hev,
     fun hev => decodeInput_of_word_wr (fsel := 4) hrst hev,
     fun hev => decodeInput_of_word_wr (fsel := 5) hrst hev⟩⟩

/-! ## The refused selects -/

/-- Settles O30: a select of 6 or 7 is a well-formed operand of WR_RESERVED, which raises its status. -/
theorem reservedFieldIsRefused : Obligations.ReservedFieldIsRefused := by
  intro s fsel val h
  have hw : (Instr.wrReserved fsel val).wellFormed = true := decide_eq_true h
  exact ⟨exec_wrReserved s fsel val, rfl, fun _ hrst hkind hfsel hval =>
    (decodeInput_of_kind_wr hrst hkind hfsel hval).trans (decodeWr_of_wellFormed hw)⟩

/-! ## What a WR event leaves unchanged -/

/-- The ten fields without a WR select are the same in both banks (42_state_write.md R168). -/
def DeviceState.sameTelemetryOwned (d e : DeviceState) : Prop :=
  e.timerOn = d.timerOn ∧ e.magicAirConnected = d.magicAirConnected ∧ e.presetsOn = d.presetsOn ∧
  e.temperatureIn = d.temperatureIn ∧ e.temperatureOut = d.temperatureOut ∧
  e.resourceFiltersDays = d.resourceFiltersDays ∧ e.errorCode = d.errorCode ∧ e.timeHour = d.timeHour ∧
  e.timeMinute = d.timeMinute ∧ e.productivity = d.productivity

/-- The banks differ at most in the field of WR select `k` (42_state_write.md R160); 6 and 7 select none. -/
def DeviceState.sameExceptField (k : Nat) (d e : DeviceState) : Prop :=
  (k ≠ 0 → e.fanSpeed = d.fanSpeed) ∧ (k ≠ 1 → e.heaterTemperature = d.heaterTemperature) ∧
  (k ≠ 2 → e.airIntakeMode = d.airIntakeMode) ∧ (k ≠ 3 → e.heaterOn = d.heaterOn) ∧
  (k ≠ 4 → e.powerOn = d.powerOn) ∧ (k ≠ 5 → e.soundOn = d.soundOn) ∧ d.sameTelemetryOwned e

section Bank
variable (d : DeviceState)

theorem DeviceState.sameTelemetryOwned_refl : d.sameTelemetryOwned d :=
  ⟨rfl, rfl, rfl, rfl, rfl, rfl, rfl, rfl, rfl, rfl⟩

theorem DeviceState.sameExceptField_refl (k : Nat) : d.sameExceptField k d :=
  ⟨fun _ => rfl, fun _ => rfl, fun _ => rfl, fun _ => rfl, fun _ => rfl, fun _ => rfl, d.sameTelemetryOwned_refl⟩

theorem DeviceState.sameTelemetryOwned_of_sameExceptField {k : Nat} {e : DeviceState} (h : d.sameExceptField k e) :
    d.sameTelemetryOwned e := by
  obtain ⟨-, -, -, -, -, -, howned⟩ := h
  exact howned

theorem DeviceState.setFanSpeed_sameExceptField (v : Byte) : d.sameExceptField 0 (d.setFanSpeed v) := by
  simp [sameExceptField, sameTelemetryOwned]

theorem DeviceState.setHeaterTemperature_sameExceptField (v : Byte) :
    d.sameExceptField 1 (d.setHeaterTemperature v) := by
  simp [sameExceptField, sameTelemetryOwned]

theorem DeviceState.setAirIntakeMode_sameExceptField (v : Byte) : d.sameExceptField 2 (d.setAirIntakeMode v) := by
  simp [sameExceptField, sameTelemetryOwned]

theorem DeviceState.setHeaterOn_sameExceptField (b : Bool) : d.sameExceptField 3 (d.setHeaterOn b) := by
  simp [sameExceptField, sameTelemetryOwned]

theorem DeviceState.setPowerOn_sameExceptField (b : Bool) : d.sameExceptField 4 (d.setPowerOn b) := by
  simp [sameExceptField, sameTelemetryOwned]

theorem DeviceState.setSoundOn_sameExceptField (b : Bool) : d.sameExceptField 5 (d.setSoundOn b) := by
  simp [sameExceptField, sameTelemetryOwned]

end Bank

/-- A select of 0 to 5 is a host write of that one field, and 6 and 7 are refused (42_state_write.md R160 to R167). -/
theorem exec_decodeWr_field (s : State) (fsel : BitVec 3) (val : Byte) :
    (fsel.toNat ≤ 5 ∧ ∃ d, exec (decodeWr fsel val) s = .next (s.hostWrite d) ∧ s.dev.sameExceptField fsel.toNat d) ∨
    (5 < fsel.toNat ∧ exec (decodeWr fsel val) s = .next (s.raise (.badField fsel))) := by
  unfold decodeWr
  split
  case h_1 h => exact .inl ⟨by omega, _, exec_wrFan s val, h.symm ▸ s.dev.setFanSpeed_sameExceptField val⟩
  case h_2 h => exact .inl ⟨by omega, _, exec_wrHtemp s val, h.symm ▸ s.dev.setHeaterTemperature_sameExceptField val⟩
  case h_3 h => exact .inl ⟨by omega, _, exec_wrMode s val, h.symm ▸ s.dev.setAirIntakeMode_sameExceptField val⟩
  case h_4 h => exact .inl ⟨by omega, _, exec_wrHeater s val, h.symm ▸ s.dev.setHeaterOn_sameExceptField _⟩
  case h_5 h => exact .inl ⟨by omega, _, exec_wrPower s val, h.symm ▸ s.dev.setPowerOn_sameExceptField _⟩
  case h_6 h => exact .inl ⟨by omega, _, exec_wrSound s val, h.symm ▸ s.dev.setSoundOn_sameExceptField _⟩
  case h_7 h0 h1 h2 h3 h4 h5 =>
    simp only [imp_false] at h0 h1 h2 h3 h4 h5
    exact .inr ⟨by omega, exec_wrReserved s fsel val⟩

/-- Settles O31: the event is a WR row, which writes its own field alone or is refused. -/
theorem hostWriteFrame : Obligations.HostWriteFrame := by
  intro s inp hrst hkind fsel
  have hrow : decodeInput inp = decodeWr (evFsel inp.ev) (evVal inp.ev) :=
    decodeInput_of_kind_wr hrst hkind (evFsel_toNat inp.ev).symm (evVal_toNat inp.ev).symm
  have hcases := exec_decodeWr_field s (evFsel inp.ev) (evVal inp.ev)
  rw [evFsel_toNat, ← hrow] at hcases
  obtain ⟨hle, d, hexec, hsame⟩ | ⟨hlt, hexec⟩ := hcases
  · exact ⟨s.hostWrite d, hexec, rfl, rfl, rfl, rfl, rfl, rfl, iff_of_true rfl hle, hsame⟩
  · exact ⟨s.raise (.badField (evFsel inp.ev)), hexec, rfl, rfl, rfl, rfl, rfl, rfl,
      iff_of_false (by simp) (Nat.not_le_of_gt hlt), s.dev.sameExceptField_refl fsel⟩

/-! ## Who writes the bank -/

/-- A TICK never writes the bank (43_watchdog.md R172 to R174). -/
theorem State.tickWatchdog_keeps_dev {s t : State} (h : s.tickWatchdog = .next t) : t.dev = s.dev := by
  obtain ⟨-, ht⟩ | ⟨-, -, ht⟩ | ⟨-, -, ht⟩ | ⟨-, -, ht⟩ := s.tickWatchdog_cases
  all_goals
    rw [ht] at h
    cases h
  · simp
  · simp
  · simp

/-- Of the event words only RX, WR and TDN write the bank (10_state.md R23). -/
theorem exec_decodeEvent_keeps_dev {s t : State} {ev : BitVec 32} {data : List Byte}
    (h : exec (decodeEvent ev data) s = .next t) (hrx : ev.toNat % 8 ≠ 1) (hwr : ev.toNat % 8 ≠ 3)
    (htdn : ev.toNat % 8 ≠ 5) : t.dev = s.dev := by
  obtain ⟨-, hi⟩ | ⟨hkind, -⟩ | ⟨-, hi⟩ | ⟨hkind, -⟩ | ⟨-, hi⟩ | ⟨hkind, -⟩ | ⟨-, hi⟩ := decodeEvent_cases ev data
  · rw [hi] at h
    cases h
    exact s.quiet_dev
  · exact absurd hkind hrx
  · obtain ⟨o, hexec, -, -⟩ := exec_decodeEnc_withOut (evOp ev) s
    rw [hi, hexec] at h
    cases h
    exact s.withOut_dev o
  · exact absurd hkind hwr
  · rw [hi] at h
    exact State.tickWatchdog_keeps_dev h
  · exact absurd hkind htdn
  · rw [hi] at h
    cases h
    exact s.raise_dev _

/-- Of the event words only RX and TDN write the ten fields without a WR select (42_state_write.md R168). -/
theorem exec_decodeEvent_keeps_telemetryOwned {s t : State} {ev : BitVec 32} {data : List Byte}
    (h : exec (decodeEvent ev data) s = .next t) (hrx : ev.toNat % 8 ≠ 1) (htdn : ev.toNat % 8 ≠ 5) :
    s.dev.sameTelemetryOwned t.dev := by
  by_cases hwr : ev.toNat % 8 = 3
  · rw [decodeEvent_of_kind_wr hwr] at h
    obtain ⟨-, d, hexec, hsame⟩ | ⟨-, hexec⟩ := exec_decodeWr_field s (evFsel ev) (evVal ev)
    · cases hexec.symm.trans h
      exact s.dev.sameTelemetryOwned_of_sameExceptField hsame
    · cases hexec.symm.trans h
      exact s.dev.sameTelemetryOwned_refl
  · rw [exec_decodeEvent_keeps_dev h hrx hwr htdn]
    exact s.dev.sameTelemetryOwned_refl

/-- Settles O56: the step runs the head of the queue, whose word's row writes the bank as stated. -/
theorem bankIsWrittenOnlyByItsWriters : Obligations.BankIsWrittenOnlyByItsWriters := by
  intro s t inp rest hq h hrst
  rw [step_cons hq, decodeInput_of_rst_false hrst] at h
  exact ⟨exec_decodeEvent_keeps_telemetryOwned (s := s.withInputs rest) h,
    exec_decodeEvent_keeps_dev (s := s.withInputs rest) h⟩

end Sys2Proof.Machine
end

section
/-! PROOFS. The freshness watchdog (43_watchdog.md): one TICK in each state (R172 to R174), the re-arm (R171), teardown, NOP and the reserved kinds (R177 to R179), the transition table (R180), and the runs from Idle and from Armed (R172, R176, R181 to R183). -/

namespace Sys2Proof.Machine

/-! ## Event words by their kind -/

theorem decodeInput_of_kind_nop {inp : Input} (hrst : inp.rst = false) (hkind : inp.ev.toNat % 8 = 0) :
    decodeInput inp = .nop := by
  simp [decodeInput_of_rst_false hrst, decodeEvent_eq, hkind]

theorem decodeInput_of_kind_tick {inp : Input} (hrst : inp.rst = false) (hkind : inp.ev.toNat % 8 = 4) :
    decodeInput inp = .tick := by
  simp [decodeInput_of_rst_false hrst, decodeEvent_eq, hkind]

theorem decodeInput_of_kind_tdn {inp : Input} (hrst : inp.rst = false) (hkind : inp.ev.toNat % 8 = 5) :
    decodeInput inp = .tdn := by
  simp [decodeInput_of_rst_false hrst, decodeEvent_eq, hkind]

theorem decodeInput_of_kind_reserved {inp : Input} {kind : BitVec 3} (hrst : inp.rst = false)
    (hkind : inp.ev.toNat % 8 = kind.toNat) (hreserved : 6 ≤ kind.toNat) :
    decodeInput inp = .reservedEvent kind := by
  have hev : evKind inp.ev = kind := BitVec.eq_of_toNat_eq ((evKind_toNat inp.ev).trans hkind)
  rw [decodeInput_of_rst_false hrst, decodeEvent_of_kind_reserved (hkind ▸ hreserved), hev]

/-- No ENC row and no WR row is a TICK (30_encoding.md R75, R76). -/
theorem decodeEnc_ne_tick (op : Byte) : decodeEnc op ≠ .tick := by
  unfold decodeEnc
  split_ifs <;> simp

theorem decodeWr_ne_tick (fsel : BitVec 3) (val : Byte) : decodeWr fsel val ≠ .tick := by
  unfold decodeWr
  split <;> simp

/-- A TICK is an event word of kind 4 with `rst` = 0 (30_encoding.md R73, R74). -/
theorem isTick_iff (inp : Input) : isTick inp = true ↔ inp.rst = false ∧ inp.ev.toNat % 8 = 4 := by
  simp only [isTick, beq_iff_eq]
  refine ⟨fun htick => ?_, fun ⟨hrst, hkind⟩ => decodeInput_of_kind_tick hrst hkind⟩
  obtain ⟨-, hi⟩ | ⟨hrst, hi⟩ := decodeInput_cases inp
  · cases hi.symm.trans htick
  · refine ⟨hrst, ?_⟩
    rw [hi] at htick
    obtain ⟨-, hrow⟩ | ⟨-, hrow⟩ | ⟨-, hrow⟩ | ⟨-, hrow⟩ | ⟨hkind, -⟩ | ⟨-, hrow⟩ | ⟨-, hrow⟩ :=
      decodeEvent_cases inp.ev inp.rx
    · cases hrow.symm.trans htick
    · cases hrow.symm.trans htick
    · exact absurd (hrow.symm.trans htick) (decodeEnc_ne_tick _)
    · exact absurd (hrow.symm.trans htick) (decodeWr_ne_tick _ _)
    · exact hkind
    · cases hrow.symm.trans htick
    · cases hrow.symm.trans htick

/-! ## One TICK -/

section Tick
variable {s : State}

/-- A TICK in Idle does nothing (43_watchdog.md R172). -/
theorem State.tickWatchdog_of_idle (h : s.wd.state = .idle) : s.tickWatchdog = .next s.quiet := by
  simp only [State.tickWatchdog, h]

/-- A TICK at count 1 fires (43_watchdog.md R174). -/
theorem State.tickWatchdog_of_one (harmed : s.wd.state = .armed) (hone : s.wd.count.toNat = 1) :
    s.tickWatchdog = .next ((s.withWd Watchdog.initial).withOut Out.fire) := by
  have hcount : s.wd.count = 1 := BitVec.eq_of_toNat_eq hone
  simp [State.tickWatchdog, harmed, hcount]

/-- A TICK above count 1 counts down (43_watchdog.md R173). -/
theorem State.tickWatchdog_of_gt (harmed : s.wd.state = .armed) (hcount : 1 < s.wd.count.toNat) :
    s.tickWatchdog = .next (s.withWd s.wd.countDown).quiet := by
  obtain ⟨hidle, -⟩ | ⟨-, hzero, -⟩ | ⟨-, hone, -⟩ | ⟨-, -, ht⟩ := s.tickWatchdog_cases
  · cases hidle.symm.trans harmed
  · simp [hzero] at hcount
  · simp [hone] at hcount
  · exact ht

end Tick

/-- Settles O34: the TICK counts down, which takes exactly one from the count. -/
theorem tickCountsDown : Obligations.TickCountsDown := by
  intro s harmed hcount
  have hdown := Watchdog.countDown_toNat hcount.le
  have hwd : s.wd.countDown = ⟨.armed, s.wd.countDown.count⟩ := by
    rw [← harmed]
    rfl
  refine ⟨s.wd.countDown.count, by omega, ?_⟩
  rw [← hwd]
  exact State.tickWatchdog_of_gt harmed hcount

/-- Settles O35: the TICK fires, with the RequestState frame's twenty bytes. -/
theorem tickFiresAtOne : Obligations.TickFiresAtOne :=
  fun _ harmed hone => ⟨reqFrame, reqFrame_toList, State.tickWatchdog_of_one harmed hone⟩

/-! ## The other events one by one -/

/-- Settles O37: RX accepts 20 bytes, which re-arms, and refuses any other number, which writes no register. -/
theorem onlyDecodedFramesRearm : Obligations.OnlyDecodedFramesRearm := by
  intro s data hcfg
  obtain ⟨-, htx, hstale⟩ := s.receive_silent data
  refine ⟨s.receive data, exec_rx s data, htx, hstale, ?_⟩
  obtain ⟨f, rfl, hf⟩ | ⟨hlen, hr⟩ := s.receive_cases data
  · rw [hf]
    exact ⟨fun _ => ⟨rfl, Watchdog.armed_count_toNat hcfg⟩, fun hne => absurd f.length_toList hne⟩
  · rw [hr]
    exact ⟨fun heq => absurd heq hlen, fun _ => s.raise_wd _⟩

/-- Settles O39: TDN and RST are both the restore. -/
theorem teardownRestoresReset : Obligations.TeardownRestoresReset :=
  fun s => ⟨exec_tdn s, (exec_rst s).trans (exec_tdn s).symm, fun _ => decodeInput_of_kind_tdn⟩

/-- Settles O42: kind 0 decodes to NOP, which only writes the idle record. -/
theorem nopDoesNothing : Obligations.NopDoesNothing :=
  ⟨fun _ => decodeInput_of_kind_nop, exec_nop⟩

/-- Settles O43: kinds 6 and 7 decode to the row that raises BAD_EVENT. -/
theorem reservedKindIsRefused : Obligations.ReservedKindIsRefused :=
  fun s kind hreserved =>
    ⟨exec_reservedEvent s kind, rfl, fun _ hrst hkind => decodeInput_of_kind_reserved hrst hkind hreserved⟩

/-! ## The transition table (43_watchdog.md R180) -/

/-- `W.state` and `W.count` after an event, as R180's rows give them from the registers before it. -/
def Watchdog.rowAfter (c : Cfg) (w : Watchdog) (inp : Input) : WdState × Nat :=
  if inp.rst = true then (.idle, 0)
  else if inp.ev.toNat % 8 = 1 ∧ inp.rx.length = 20 then (.armed, c.timeoutTicks)
  else if inp.ev.toNat % 8 = 4 ∧ w.state = .armed ∧ w.count.toNat = 1 then (.idle, 0)
  else if inp.ev.toNat % 8 = 4 ∧ w.state = .armed then (.armed, w.count.toNat - 1)
  else if inp.ev.toNat % 8 = 5 then (.idle, 0)
  else (w.state, w.count.toNat)

section Table
variable {s : State} {inp : Input}

/-- A TICK follows its three rows, from every state R41 allows. -/
theorem State.tickWatchdog_follows_row (hwd : s.wd.inRange s.cfg) (hrst : inp.rst = false)
    (hkind : inp.ev.toNat % 8 = 4) :
    ∃ t, s.tickWatchdog = .next t ∧ (t.wd.state, t.wd.count.toNat) = s.wd.rowAfter s.cfg inp := by
  obtain ⟨hidle, ht⟩ | ⟨harmed, hzero, -⟩ | ⟨harmed, hone, ht⟩ | ⟨harmed, hgt, ht⟩ := s.tickWatchdog_cases
  · exact ⟨_, ht, by simp [Watchdog.rowAfter, hrst, hkind, hidle]⟩
  · obtain ⟨-, hrange⟩ := hwd
    obtain ⟨hmin, -⟩ := hrange harmed
    simp [hzero] at hmin
  · exact ⟨_, ht, by simp [Watchdog.rowAfter, hrst, hkind, harmed, hone]⟩
  · have hdown := Watchdog.countDown_toNat hgt.le
    exact ⟨_, ht, by simp [Watchdog.rowAfter, hrst, hkind, harmed, hgt.ne', -Watchdog.countDown_count, hdown]⟩

/-- Every event completes and leaves the watchdog as its row of R180 says. -/
theorem exec_decodeInput_follows_row (hcfg : s.cfg.wf) (hwd : s.wd.inRange s.cfg) :
    ∃ t, exec (decodeInput inp) s = .next t ∧
      (t.wd.state, t.wd.count.toNat) = s.wd.rowAfter s.cfg inp := by
  obtain ⟨hrst, hi⟩ | ⟨hrst, hi⟩ := decodeInput_cases inp
  · rw [hi]
    exact ⟨s.restore, exec_rst s, by simp [Watchdog.rowAfter, hrst]⟩
  · rw [hi]
    obtain ⟨hkind, hrow⟩ | ⟨hkind, hrow⟩ | ⟨hkind, hrow⟩ | ⟨hkind, hrow⟩ | ⟨hkind, hrow⟩ | ⟨hkind, hrow⟩ | ⟨hkind, hrow⟩ :=
      decodeEvent_cases inp.ev inp.rx
    all_goals rw [hrow]
    · exact ⟨s.quiet, exec_nop s, by simp [Watchdog.rowAfter, hrst, hkind]⟩
    · obtain ⟨f, hdata, hf⟩ | ⟨hlen, hr⟩ := s.receive_cases inp.rx
      · refine ⟨s.acceptTelemetry f, congrArg Host.Outcome.next hf, ?_⟩
        rw [State.acceptTelemetry_wd, Watchdog.armed_count_toNat hcfg]
        simp [Watchdog.rowAfter, hrst, hkind, hdata]
      · exact ⟨_, congrArg Host.Outcome.next hr, by simp [Watchdog.rowAfter, hrst, hkind, hlen]⟩
    · obtain ⟨o, hexec, -, -⟩ := exec_decodeEnc_withOut (evOp inp.ev) s
      exact ⟨_, hexec, by simp [Watchdog.rowAfter, hrst, hkind]⟩
    · obtain ⟨d, hexec⟩ | hexec := exec_decodeWr_cases s (evFsel inp.ev) (evVal inp.ev)
      · exact ⟨_, hexec, by simp [Watchdog.rowAfter, hrst, hkind]⟩
      · exact ⟨_, hexec, by simp [Watchdog.rowAfter, hrst, hkind]⟩
    · exact State.tickWatchdog_follows_row hwd hrst hkind
    · exact ⟨s.restore, exec_tdn s, by simp [Watchdog.rowAfter, hrst, hkind]⟩
    · have hne : ∀ k < 6, inp.ev.toNat % 8 ≠ k := fun k hk => by omega
      exact ⟨_, exec_reservedEvent s (evKind inp.ev), by simp [Watchdog.rowAfter, hrst, hne]⟩

/-- `stale` appears on the firing row alone (43_watchdog.md R174, R180). -/
theorem exec_decodeInput_stale_iff {t : State} (hcfg : s.cfg.wf) (h : exec (decodeInput inp) s = .next t) :
    t.out.stale = true ↔ inp.rst = false ∧ inp.ev.toNat % 8 = 4 ∧ s.wd.state = .armed ∧ s.wd.count.toNat = 1 := by
  constructor
  · intro hstale
    obtain ⟨-, -, hsilent⟩ | ⟨f, hout, -⟩ | ⟨-, hfire⟩ := exec_decodeInput_out hcfg h
    · simp [hsilent] at hstale
    · simp [hout] at hstale
    · exact hfire
  · rintro ⟨hrst, hkind, harmed, hone⟩
    rw [decodeInput_of_kind_tick hrst hkind, exec_tick, State.tickWatchdog_of_one harmed hone] at h
    cases h
    exact Out.fire_stale

/-- `wd_tx` and `stale` appear together (43_watchdog.md R174). -/
theorem exec_decodeInput_wdTx_iff {t : State} (hcfg : s.cfg.wf) (h : exec (decodeInput inp) s = .next t) :
    t.out.wdTx ≠ none ↔ t.out.stale = true := by
  obtain ⟨-, htx, hstale⟩ | ⟨f, hout, -⟩ | ⟨hout, -⟩ := exec_decodeInput_out hcfg h
  · simp [htx, hstale]
  · simp [hout]
  · simp [hout]

end Table

/-- Settles O44: every event follows its row, and only the firing row puts out `stale`, with `wd_tx`. -/
theorem watchdogTransitionTable : Obligations.WatchdogTransitionTable := by
  intro s inp hcfg hwd kind
  obtain ⟨t, hexec, hrow⟩ := exec_decodeInput_follows_row (inp := inp) hcfg hwd
  exact ⟨t, hexec, hrow, exec_decodeInput_stale_iff hcfg hexec, exec_decodeInput_wdTx_iff hcfg hexec⟩

/-! ## Runs with their outputs -/

/-- From `s` the next `os.length` steps reach `t` and put out the records `os`. -/
def Reaches (s : State) (os : List Out) (t : State) : Prop :=
  Host.Core.run core os.length s = .next t ∧ outputs os.length s = os

section Runs
variable {s t u : State} {os os' : List Out}

theorem Reaches.refl (s : State) : Reaches s [] s := ⟨rfl, rfl⟩

/-- A step and then a run. -/
theorem Reaches.cons (hstep : step s = .next u) (hrun : Reaches u os t) : Reaches s (u.out :: os) t := by
  obtain ⟨hnext, houts⟩ := hrun
  exact ⟨(run_succ hstep).trans hnext, (outputs_succ hstep).trans (congrArg _ houts)⟩

/-- A run that has taken a step, by its first step. -/
theorem Reaches.of_cons {o : Out} (h : Reaches s (o :: os) t) :
    ∃ u, step s = .next u ∧ u.out = o ∧ Reaches u os t := by
  obtain ⟨hnext, houts⟩ := h
  obtain ⟨u, hstep, hrun⟩ := run_succ_next hnext
  rw [List.length_cons, outputs_succ hstep, List.cons.injEq] at houts
  obtain ⟨hout, hrest⟩ := houts
  exact ⟨u, hstep, hout, hrun, hrest⟩

/-- A run and then a run. -/
theorem Reaches.append (h : Reaches s os u) (h' : Reaches u os' t) : Reaches s (os ++ os') t := by
  induction os generalizing s with
  | nil =>
    obtain ⟨hnext, -⟩ := h
    cases hnext
    exact h'
  | cons o os ih =>
    obtain ⟨v, hstep, rfl, hrun⟩ := h.of_cons
    exact .cons hstep (ih hrun)

theorem Reaches.run_eq {n : Nat} (h : Reaches s os t) (hn : os.length = n) : Host.Core.run core n s = .next t := by
  obtain ⟨hnext, -⟩ := h
  exact hn ▸ hnext

theorem Reaches.outputs_eq {n : Nat} (h : Reaches s os t) (hn : os.length = n) : outputs n s = os := by
  obtain ⟨-, houts⟩ := h
  exact hn ▸ houts

end Runs

/-! ## Steps that run a presented TICK or RX -/

section Presented
variable {s : State} {rest : List Input}

theorem step_tick_of_idle (hq : s.inputs = tickInput :: rest) (h : s.wd.state = .idle) :
    step s = .next (s.withInputs rest).quiet :=
  (step_cons hq).trans (State.tickWatchdog_of_idle (s := s.withInputs rest) h)

theorem step_tick_of_one (hq : s.inputs = tickInput :: rest) (harmed : s.wd.state = .armed)
    (hone : s.wd.count.toNat = 1) :
    step s = .next (((s.withInputs rest).withWd Watchdog.initial).withOut Out.fire) :=
  (step_cons hq).trans (State.tickWatchdog_of_one (s := s.withInputs rest) harmed hone)

theorem step_tick_of_gt (hq : s.inputs = tickInput :: rest) (harmed : s.wd.state = .armed)
    (hcount : 1 < s.wd.count.toNat) :
    step s = .next ((s.withInputs rest).withWd s.wd.countDown).quiet :=
  (step_cons hq).trans (State.tickWatchdog_of_gt (s := s.withInputs rest) harmed hcount)

theorem step_rx_of_frame {data : List Byte} (hq : s.inputs = rxInput data :: rest) (hlen : data.length = 20) :
    ∃ f, step s = .next ((s.withInputs rest).acceptTelemetry f) := by
  obtain ⟨f, -, hf⟩ | ⟨hne, -⟩ := (s.withInputs rest).receive_cases data
  · exact ⟨f, (step_cons hq).trans (congrArg Host.Outcome.next hf)⟩
  · exact absurd hlen hne

end Presented

/-! ## TICKs in Idle (43_watchdog.md R172) -/

/-- One or more TICKs in Idle leave the registers and put out idle records. -/
theorem reaches_of_ticks_idle {s : State} {rest : List Input} (hidle : s.wd.state = .idle) (m : Nat)
    (hq : s.inputs = List.replicate (m + 1) tickInput ++ rest) :
    Reaches s (List.replicate (m + 1) Out.idle) (s.withInputs rest).quiet := by
  induction m generalizing s with
  | zero => exact .cons (step_tick_of_idle hq hidle) (.refl _)
  | succ m ih =>
    exact .cons (step_tick_of_idle hq hidle)
      (ih (s := (s.withInputs (List.replicate (m + 1) tickInput ++ rest)).quiet) hidle rfl)

/-- Idle records are no fires. -/
theorem fireCount_replicate_idle (n : Nat) : fireCount (List.replicate n Out.idle) = 0 := by
  simp [fireCount, List.countP_replicate]

/-- Settles O33: by induction on the number of TICKs, each of which leaves an Idle state. -/
theorem ticksInIdleDoNothing : Obligations.TicksInIdleDoNothing := by
  intro s hidle
  refine ⟨State.tickWatchdog_of_idle hidle, fun n rest hn => ?_⟩
  obtain ⟨m, rfl⟩ := Nat.exists_eq_add_of_le' hn
  have hrun := reaches_of_ticks_idle
    (s := s.withInputs (List.replicate (m + 1) tickInput ++ rest)) (rest := rest) hidle m rfl
  refine ⟨hrun.run_eq List.length_replicate, ?_⟩
  exact (congrArg fireCount (hrun.outputs_eq List.length_replicate)).trans (fireCount_replicate_idle _)

/-! ## TICKs in Armed (43_watchdog.md R173, R174, R176) -/

/-- `t` is what `k` counting TICKs leave of the Armed state `s`, with the events `rest` still to come (43_watchdog.md R173). -/
structure CountedDown (s : State) (k : Nat) (rest : List Input) (t : State) : Prop where
  dev : t.dev = s.dev
  armed : t.wd.state = .armed
  count : t.wd.count.toNat + k = s.wd.count.toNat
  out : t.out = if k = 0 then s.out else Out.idle
  inputs : t.inputs = rest
  cfg : t.cfg = s.cfg

/-- Counting goes on from where counting stopped. -/
theorem CountedDown.trans {s t u : State} {k j : Nat} {mid rest : List Input} (h : CountedDown s k mid u)
    (h' : CountedDown u j rest t) : CountedDown s (k + j) rest t where
  dev := h'.dev.trans h.dev
  armed := h'.armed
  count := by
    have hk := h.count
    have hj := h'.count
    omega
  out := by
    rw [h'.out, h.out]
    cases j with
    | zero => rfl
    | succ j => rfl
  inputs := h'.inputs
  cfg := h'.cfg.trans h.cfg

/-- One TICK above count 1. -/
theorem step_countedDown {s : State} {rest : List Input} (harmed : s.wd.state = .armed)
    (hcount : 1 < s.wd.count.toNat) (hq : s.inputs = tickInput :: rest) :
    ∃ u, step s = .next u ∧ u.out = Out.idle ∧ CountedDown s 1 rest u :=
  ⟨_, step_tick_of_gt hq harmed hcount, rfl, rfl, harmed,
    (congrArg (· + 1) (Watchdog.countDown_toNat hcount.le)).trans (Nat.sub_add_cancel hcount.le), rfl, rfl, rfl⟩

/-- Fewer TICKs than the count only count down, silently. -/
theorem reaches_countedDown {s : State} {rest : List Input} {k : Nat} (harmed : s.wd.state = .armed)
    (hk : k < s.wd.count.toNat) (hq : s.inputs = List.replicate k tickInput ++ rest) :
    ∃ t, Reaches s (List.replicate k Out.idle) t ∧ CountedDown s k rest t := by
  induction k generalizing s with
  | zero => exact ⟨s, .refl s, rfl, harmed, rfl, rfl, hq, rfl⟩
  | succ k ih =>
    obtain ⟨u, hstep, hout, hu⟩ := step_countedDown (rest := List.replicate k tickInput ++ rest) harmed (by omega) hq
    have hone := hu.count
    obtain ⟨t, hrun, ht⟩ := ih hu.armed (by omega) hu.inputs
    have hcons := Reaches.cons hstep hrun
    rw [hout] at hcons
    exact ⟨t, hcons, Nat.add_comm 1 k ▸ hu.trans ht⟩

/-- Of as many TICKs as the count, the last one fires (43_watchdog.md R174). -/
theorem reaches_lastTick {s : State} {rest : List Input} (harmed : s.wd.state = .armed)
    (hpos : 1 ≤ s.wd.count.toNat) (hq : s.inputs = List.replicate s.wd.count.toNat tickInput ++ rest) :
    ∃ u, Reaches s (List.replicate (s.wd.count.toNat - 1) Out.idle) u ∧ u.dev = s.dev ∧
      step u = .next (((u.withInputs rest).withWd Watchdog.initial).withOut Out.fire) := by
  obtain ⟨m, hm⟩ := Nat.exists_eq_add_of_le' hpos
  have hq' : s.inputs = List.replicate m tickInput ++ tickInput :: rest := by
    rw [hq, hm, List.replicate_succ', List.append_assoc, List.singleton_append]
  obtain ⟨u, hrun, hu⟩ := reaches_countedDown harmed (by omega) hq'
  have hcount := hu.count
  rw [hm, Nat.add_sub_cancel]
  exact ⟨u, hrun, hu.dev, step_tick_of_one hu.inputs hu.armed (by omega)⟩

/-- Settles O45: the first k TICKs count down to n - k, and the n-th meets count 1 and fires. -/
theorem timerFiresOnItsLastTick : Obligations.TimerFiresOnItsLastTick := by
  intro s rest harmed hpos hq
  constructor
  · intro k hk
    have hq' : s.inputs =
        List.replicate k tickInput ++ (List.replicate (s.wd.count.toNat - k) tickInput ++ rest) := by
      rw [hq, ← List.append_assoc, List.replicate_append_replicate, Nat.add_sub_cancel' hk.le]
    obtain ⟨t, hrun, ht⟩ := reaches_countedDown harmed hk hq'
    exact ⟨t, hrun.run_eq List.length_replicate, ht.dev, ht.armed, Nat.eq_sub_of_add_eq ht.count,
      fun hk1 => ht.out.trans (if_neg (Nat.ne_of_gt hk1))⟩
  · obtain ⟨u, hrun, hdev, hfire⟩ := reaches_lastTick harmed hpos hq
    have hlength : (List.replicate (s.wd.count.toNat - 1) Out.idle ++ [Out.fire]).length = s.wd.count.toNat := by
      simp [Nat.sub_add_cancel hpos]
    exact ⟨_, (hrun.append (.cons hfire (.refl _))).run_eq hlength, hdev, rfl, rfl, rfl⟩

/-! ## A second telemetry frame (43_watchdog.md R183) -/

/-- A 20-byte RX re-arms with the whole timeout, in any state, and is not stale (43_watchdog.md R171). -/
theorem step_rx_rearms {s : State} {data : List Byte} {rest : List Input} (hcfg : s.cfg.wf)
    (hq : s.inputs = rxInput data :: rest) (hlen : data.length = 20) :
    ∃ t, step s = .next t ∧ t.wd.state = .armed ∧ t.wd.count.toNat = s.cfg.timeoutTicks ∧
      t.out.stale = false ∧ t.inputs = rest ∧ t.cfg = s.cfg := by
  obtain ⟨f, hstep⟩ := step_rx_of_frame hq hlen
  exact ⟨_, hstep, rfl, Watchdog.armed_count_toNat hcfg, rfl, rfl, rfl⟩

/-- A run without a stale record and then a stale step: exactly the last record is stale. -/
theorem Reaches.stale_iff_last {s t u : State} {os : List Out} {n : Nat} (hrun : Reaches s os u)
    (hstep : step u = .next t) (hos : ∀ o ∈ os, o.stale = false) (hlast : t.out.stale = true) (hn : os.length = n) :
    (outputs (n + 1) s).length = n + 1 ∧ ∀ k o, (outputs (n + 1) s)[k]? = some o → (o.stale = true ↔ k = n) := by
  subst hn
  have houts : outputs (os.length + 1) s = os ++ [t.out] :=
    (hrun.append (.cons hstep (.refl t))).outputs_eq (by simp)
  rw [houts]
  refine ⟨by simp, fun k o ho => ?_⟩
  obtain hlt | rfl | hgt := Nat.lt_trichotomy k os.length
  · rw [List.getElem?_append_left hlt] at ho
    simp [hos o (List.mem_of_getElem? ho), hlt.ne]
  · simp only [List.getElem?_concat_length, Option.some.injEq] at ho
    simp [← ho, hlast]
  · have hend : (os ++ [t.out])[k]? = none := List.getElem?_eq_none (by simp; omega)
    cases hend.symm.trans ho

/-- Settles O47: the j TICKs between the frames only count down, and the second frame's timer fires on its n-th TICK. -/
theorem secondFrameRestartsTimer : Obligations.SecondFrameRestartsTimer := by
  refine ⟨by decide, rfl, ?_⟩
  rintro s data data' j n rest hcfg hticks hlen hlen' hj hq
  obtain ⟨t₁, hrx, harmed, hcount, hstale, hinputs, hcfg₁⟩ := step_rx_rearms hcfg hq hlen
  obtain ⟨t₂, hwait, ht₂⟩ := reaches_countedDown harmed (by omega) hinputs
  have hcfg₂ : t₂.cfg = s.cfg := ht₂.cfg.trans hcfg₁
  obtain ⟨t₃, hrx', harmed', hcount', hstale', hinputs', -⟩ := step_rx_rearms (hcfg₂ ▸ hcfg) ht₂.inputs hlen'
  rw [hcfg₂, hticks] at hcount'
  rw [← hcount'] at hinputs'
  obtain ⟨t₄, hwait', -, hfire⟩ := reaches_lastTick harmed' (by omega) hinputs'
  rw [hcount'] at hwait'
  refine (Reaches.cons hrx (hwait.append (.cons hrx' hwait'))).stale_iff_last hfire ?_ Out.fire_stale ?_
  · simp [hstale, hstale', List.mem_replicate, or_imp, forall_and]
  · simp only [List.length_cons, List.length_append, List.length_replicate]
    omega

/-! ## One fire per arm cycle (43_watchdog.md R181, R182) -/

section ArmCycle
variable {s : State} {q : Input} {rest : List Input}

/-- From the invariant every presented event is taken and keeps the invariant, the watchdog follows R180's table, and the step fires exactly on a TICK at count 1. -/
theorem step_follows_row (hs : s.inv) (hq : s.inputs = q :: rest) :
    ∃ t, step s = .next t ∧ t.inv ∧ t.inputs = rest ∧
      (t.wd.state, t.wd.count.toNat) = s.wd.rowAfter s.cfg q ∧
      (t.out.wdTx.isSome = true ↔ isTick q = true ∧ s.wd.state = .armed ∧ s.wd.count.toNat = 1) := by
  have ⟨hcfg, hwd, _, _⟩ := hs
  obtain ⟨t, hexec, hrow⟩ := exec_decodeInput_follows_row (s := s.withInputs rest) (inp := q) hcfg hwd
  have hstale := exec_decodeInput_stale_iff (s := s.withInputs rest) hcfg hexec
  have htx := exec_decodeInput_wdTx_iff (s := s.withInputs rest) hcfg hexec
  obtain ⟨-, hinputs⟩ := exec_keeps_cfg_inputs hexec
  refine ⟨t, (step_cons hq).trans hexec, exec_keeps_inv (State.withInputs_inv hs rest) hexec, hinputs, hrow, ?_⟩
  rw [isTick_iff, and_assoc, Option.isSome_iff_ne_none]
  exact htx.trans hstale

/-- A cancelling event is a reset, a status-OK RX or a TDN (43_watchdog.md R182). -/
theorem cancels_eq_false_iff : cancels q = false ↔
    q.rst = false ∧ arms q = false ∧ q.ev.toNat % 8 ≠ 5 := by
  simp [cancels, and_assoc]

theorem arms_eq_false_iff (hrst : q.rst = false) :
    arms q = false ↔ ¬ (q.ev.toNat % 8 = 1 ∧ q.rx.length = 20) := by
  simp [arms, hrst]

/-- From Idle an event other than a status-OK RX stays in Idle (43_watchdog.md R180). -/
theorem Watchdog.rowAfter_of_idle {c : Cfg} {w : Watchdog} (hidle : w.state = .idle) (h : arms q = false) :
    (w.rowAfter c q).1 = .idle := by
  cases hrst : q.rst with
  | true => simp [rowAfter, hrst]
  | false =>
    rw [rowAfter, if_neg ((arms_eq_false_iff hrst).mp h)]
    simp [hrst, hidle, apply_ite Prod.fst]

/-- From Armed an event that neither re-arms nor cancels moves the watchdog by a TICK alone (43_watchdog.md R180). -/
theorem Watchdog.rowAfter_of_armed {c : Cfg} {w : Watchdog} (harmed : w.state = .armed) (h : cancels q = false) :
    w.rowAfter c q =
      if isTick q = true then (if w.count.toNat = 1 then (.idle, 0) else (.armed, w.count.toNat - 1))
      else (.armed, w.count.toNat) := by
  obtain ⟨hrst, harms, htdn⟩ := cancels_eq_false_iff.mp h
  have hrx := (arms_eq_false_iff hrst).mp harms
  by_cases htick : isTick q = true
  · obtain ⟨-, hkind⟩ := (isTick_iff q).mp htick
    simp [rowAfter, hrst, hkind, harmed, htick]
  · have hkind : q.ev.toNat % 8 ≠ 4 := fun hkind => htick ((isTick_iff q).mpr ⟨hrst, hkind⟩)
    simp [rowAfter, hrst, hrx, hkind, htdn, harmed, htick]

end ArmCycle

theorem fireCount_cons (o : Out) (os : List Out) :
    fireCount (o :: os) = fireCount os + if o.wdTx.isSome = true then 1 else 0 :=
  List.countP_cons

/-- From Idle no step stops and none fires, through any events without a status-OK RX (43_watchdog.md R181). -/
theorem outputs_of_idle {s : State} {qs rest : List Input} (hs : s.inv) (hidle : s.wd.state = .idle)
    (hqs : ∀ q ∈ qs, arms q = false) (hq : s.inputs = qs ++ rest) :
    (outputs qs.length s).length = qs.length ∧ fireCount (outputs qs.length s) = 0 := by
  induction qs generalizing s with
  | nil => exact ⟨rfl, rfl⟩
  | cons q qs ih =>
    obtain ⟨harms, hqs⟩ := List.forall_mem_cons.mp hqs
    obtain ⟨t, hstep, ht, hinputs, hrow, hfires⟩ := step_follows_row hs hq
    have hstays : t.wd.state = .idle :=
      (congrArg Prod.fst hrow).trans (Watchdog.rowAfter_of_idle hidle harms)
    obtain ⟨hlength, hcount⟩ := ih ht hstays hqs hinputs
    have hsilent : ¬ t.out.wdTx.isSome = true := by simp [hfires, hidle]
    rw [List.length_cons, outputs_succ hstep, fireCount_cons, if_neg hsilent]
    exact ⟨congrArg Nat.succ hlength, hcount⟩

/-- From Armed no step stops, and the one fire comes with the TICK that brings the TICKs to the count (43_watchdog.md R182). -/
theorem outputs_of_armed {s : State} {qs rest : List Input} (hs : s.inv) (harmed : s.wd.state = .armed)
    (hqs : ∀ q ∈ qs, cancels q = false) (hq : s.inputs = qs ++ rest) :
    (outputs qs.length s).length = qs.length ∧
      fireCount (outputs qs.length s) = if s.wd.count.toNat ≤ qs.countP isTick then 1 else 0 := by
  have hpos : 1 ≤ s.wd.count.toNat := by
    obtain ⟨-, ⟨-, hrange⟩, -⟩ := hs
    obtain ⟨hmin, -⟩ := hrange harmed
    exact hmin
  induction qs generalizing s with
  | nil => simp [outputs, fireCount, Nat.ne_of_gt hpos]
  | cons q qs ih =>
    obtain ⟨hcancels, hqs⟩ := List.forall_mem_cons.mp hqs
    obtain ⟨t, hstep, ht, hinputs, hrow, hfires⟩ := step_follows_row hs hq
    rw [Watchdog.rowAfter_of_armed harmed hcancels] at hrow
    rw [List.length_cons, outputs_succ hstep, fireCount_cons, List.length_cons, List.countP_cons]
    by_cases htick : isTick q = true
    · by_cases hone : s.wd.count.toNat = 1
      · -- the fire, after which the watchdog is Idle
        rw [if_pos htick, if_pos hone, Prod.mk.injEq] at hrow
        obtain ⟨hidle, -⟩ := hrow
        have harms : ∀ q ∈ qs, arms q = false := fun q hmem => by
          obtain ⟨-, harms, -⟩ := cancels_eq_false_iff.mp (hqs q hmem)
          exact harms
        obtain ⟨hlength, hcount⟩ := outputs_of_idle ht hidle harms hinputs
        simp [hlength, hcount, hfires, htick, harmed, hone]
      · rw [if_pos htick, if_neg hone, Prod.mk.injEq] at hrow
        obtain ⟨hstays, hdown⟩ := hrow
        obtain ⟨hlength, hcount⟩ := ih ht hstays hqs hinputs (by omega)
        have hiff : s.wd.count.toNat - 1 ≤ qs.countP isTick ↔ s.wd.count.toNat ≤ qs.countP isTick + 1 := by omega
        simp [hlength, hcount, hfires, htick, hone, hdown, hiff]
    · rw [if_neg htick, Prod.mk.injEq] at hrow
      obtain ⟨hstays, hsame⟩ := hrow
      obtain ⟨hlength, hcount⟩ := ih ht hstays hqs hinputs (by omega)
      simp [hlength, hcount, hfires, htick, hsame]

/-- Settles O46: the run from Armed and the run from Idle, each by induction on its events. -/
theorem oneFirePerArmCycle : Obligations.OneFirePerArmCycle :=
  fun _ _ _ hs hq => ⟨fun harmed hqs => outputs_of_armed hs harmed hqs hq,
    fun hidle hqs => outputs_of_idle hs hidle hqs hq⟩

end Sys2Proof.Machine
end

section
/-! PROOFS. Errors and ordering (60_exceptions.md): every event completes (R190, R200, R205), an error writes no register (R190, R192), the status by the order of the checks (R194), and one cycle's strobes in their order (R196). -/

namespace Sys2Proof.Machine

/-! ## Every event completes (R190) -/

/-- From every state R41 allows a TICK completes: only Armed with count 0 stops it (log entry 8). -/
theorem State.tickWatchdog_completes {s : State} (hwd : s.wd.inRange s.cfg) : ∃ t, s.tickWatchdog = .next t := by
  obtain ⟨-, ht⟩ | ⟨harmed, hzero, -⟩ | ⟨-, -, ht⟩ | ⟨-, -, ht⟩ := s.tickWatchdog_cases
  · exact ⟨_, ht⟩
  · obtain ⟨-, hrange⟩ := hwd
    obtain ⟨hmin, -⟩ := hrange harmed
    simp [hzero] at hmin
  · exact ⟨_, ht⟩
  · exact ⟨_, ht⟩

/-- Only TICK can stop, and not from a state R41 allows. -/
theorem exec_completes {s : State} (hwd : s.wd.inRange s.cfg) (i : Instr) : ∃ t, exec i s = .next t := by
  cases i with
  | tick => exact State.tickWatchdog_completes hwd
  | _ => exact ⟨_, rfl⟩

/-- Settles O51: every instruction completes, and a step is its event's instruction, which leaves the rest of the queue. -/
theorem noEventEverTraps : Obligations.NoEventEverTraps := by
  rintro s ⟨-, hwd, -, -⟩
  refine ⟨exec_completes hwd, fun inp rest hq => ?_⟩
  obtain ⟨t, ht⟩ := exec_completes (s := s.withInputs rest) hwd (decodeInput inp)
  obtain ⟨-, hinputs⟩ := exec_keeps_cfg_inputs ht
  exact ⟨t, (step_cons hq).trans ht, hinputs⟩

/-! ## Errors change nothing (R190, R192) -/

/-- RX ends with status OK or only raises a status (41_telemetry_decode.md R120, R121). -/
theorem State.receive_ok_or_raise (s : State) (data : List Byte) :
    (s.receive data).out.status = .ok ∨ ∃ st, s.receive data = s.raise st := by
  obtain ⟨f, -, hf⟩ | ⟨-, hr⟩ := s.receive_cases data
  · exact .inl (congrArg (fun t => t.out.status) hf)
  · exact .inr ⟨_, hr⟩

/-- A TICK never raises a status (43_watchdog.md R172 to R174). -/
theorem State.tickWatchdog_status {s t : State} (h : s.tickWatchdog = .next t) : t.out.status = .ok := by
  obtain ⟨-, ht⟩ | ⟨-, -, ht⟩ | ⟨-, -, ht⟩ | ⟨-, -, ht⟩ := s.tickWatchdog_cases
  all_goals
    rw [ht] at h
    cases h
  · rfl
  · rfl
  · rfl

/-- Every instruction ends with status OK or only raises a status (60_exceptions.md R190). -/
theorem exec_ok_or_raise {i : Instr} {s t : State} (h : exec i s = .next t) :
    t.out.status = .ok ∨ ∃ st, t = s.raise st := by
  cases i with
  | rx data =>
    cases h
    exact s.receive_ok_or_raise data
  | tick => exact .inl (State.tickWatchdog_status h)
  | encUnsupported | wrReserved | reservedEvent =>
    cases h
    exact .inr ⟨_, rfl⟩
  | _ =>
    cases h
    exact .inl rfl

/-- Settles O52: a status other than OK was raised, which writes the output record alone. -/
theorem errorsChangeNothing : Obligations.ErrorsChangeNothing := by
  intro s t h hstatus
  obtain ⟨inp, rest, hq, hexec⟩ := step_next h
  obtain hok | ⟨st, rfl⟩ := exec_ok_or_raise hexec
  · exact absurd hok hstatus
  · exact ⟨rfl, rfl, (congrArg List.tail hq).symm, rfl, rfl, rfl, rfl⟩

/-! ## The status by the order of the checks (R191, R194) -/

/-- The status code of an event by R194's checks in their order, `rst` overriding all. -/
def checkedCode (inp : Input) : Nat :=
  if inp.rst = true then 0
  else if inp.ev.toNat % 8 = 6 ∨ inp.ev.toNat % 8 = 7 then 4
  else if inp.ev.toNat % 8 = 1 ∧ inp.rx.length ≠ 20 then 1
  else if inp.ev.toNat % 8 = 2 ∧ inp.ev.toNat / 256 % 256 ≠ 0x01 ∧ inp.ev.toNat / 256 % 256 ≠ 0x02 ∧
    inp.ev.toNat / 256 % 256 ≠ 0x05 then 2
  else if inp.ev.toNat % 8 = 3 ∧ (inp.ev.toNat / 65536 % 8 = 6 ∨ inp.ev.toNat / 65536 % 8 = 7) then 3
  else 0

/-- From `s` the instruction completes with the status of this code. -/
def EndsWithCode (i : Instr) (s : State) (code : Nat) : Prop :=
  ∃ t, exec i s = .next t ∧ t.out.status.code.toNat = code

/-- The length check of RX (41_telemetry_decode.md R121). -/
theorem rx_endsWithCode (s : State) (data : List Byte) :
    EndsWithCode (.rx data) s (if data.length ≠ 20 then 1 else 0) := by
  obtain ⟨f, rfl, hf⟩ | ⟨hlen, hr⟩ := s.receive_cases data
  · exact ⟨_, congrArg Host.Outcome.next hf, by simp [Status.code]⟩
  · exact ⟨_, congrArg Host.Outcome.next hr, by simp [Status.code, hlen]⟩

/-- The opcode check of ENC (40_command_encode.md R105). -/
theorem decodeEnc_endsWithCode (s : State) (op : Byte) : EndsWithCode (decodeEnc op) s
    (if op.toNat ≠ 0x01 ∧ op.toNat ≠ 0x02 ∧ op.toNat ≠ 0x05 then 2 else 0) := by
  by_cases hother : op.toNat ≠ 0x01 ∧ op.toNat ≠ 0x02 ∧ op.toNat ≠ 0x05
  · obtain ⟨hreq, hset, hpair⟩ := hother
    rw [if_pos ⟨hreq, hset, hpair⟩, decodeEnc_eq, if_neg hreq, if_neg hset, if_neg hpair]
    exact ⟨_, exec_encUnsupported s op, rfl⟩
  · rw [if_neg hother, decodeEnc_eq]
    split_ifs with hreq hset hpair
    · exact ⟨_, exec_encRequestState s, rfl⟩
    · exact ⟨_, exec_encSetState s, rfl⟩
    · exact ⟨_, exec_encPair s, rfl⟩
    · exact absurd ⟨hreq, hset, hpair⟩ hother

/-- The field select check of WR (42_state_write.md R167). -/
theorem decodeWr_endsWithCode (s : State) (fsel : BitVec 3) (val : Byte) :
    EndsWithCode (decodeWr fsel val) s (if fsel.toNat = 6 ∨ fsel.toNat = 7 then 3 else 0) := by
  have hlt := fsel.isLt
  obtain ⟨hle, d, hexec, -⟩ | ⟨hgt, hexec⟩ := exec_decodeWr_field s fsel val
  · have hno : ¬ (fsel.toNat = 6 ∨ fsel.toNat = 7) := by omega
    exact ⟨_, hexec, (if_neg hno).symm⟩
  · have hyes : fsel.toNat = 6 ∨ fsel.toNat = 7 := by omega
    exact ⟨_, hexec, (if_pos hyes).symm⟩

/-- Every event completes with the status of the first check that fails (60_exceptions.md R194). -/
theorem exec_decodeInput_endsWithCode {s : State} (hwd : s.wd.inRange s.cfg) (inp : Input) :
    EndsWithCode (decodeInput inp) s (checkedCode inp) := by
  obtain ⟨hrst, hi⟩ | ⟨hrst, hi⟩ := decodeInput_cases inp
  · rw [hi]
    exact ⟨s.restore, exec_rst s, (if_pos hrst).symm⟩
  · rw [hi]
    obtain ⟨hkind, hrow⟩ | ⟨hkind, hrow⟩ | ⟨hkind, hrow⟩ | ⟨hkind, hrow⟩ | ⟨hkind, hrow⟩ | ⟨hkind, hrow⟩ | ⟨hkind, hrow⟩ :=
      decodeEvent_cases inp.ev inp.rx
    all_goals rw [hrow]
    · exact ⟨s.quiet, exec_nop s, by simp [checkedCode, hrst, hkind, Status.code]⟩
    · simpa [checkedCode, hrst, hkind] using rx_endsWithCode s inp.rx
    · simpa [checkedCode, hrst, hkind, evOp_toNat] using decodeEnc_endsWithCode s (evOp inp.ev)
    · simpa [checkedCode, hrst, hkind, evFsel_toNat] using
        decodeWr_endsWithCode s (evFsel inp.ev) (evVal inp.ev)
    · obtain ⟨t, ht⟩ := State.tickWatchdog_completes hwd
      have hok := State.tickWatchdog_status ht
      exact ⟨t, ht, by simp [checkedCode, hrst, hkind, hok, Status.code]⟩
    · exact ⟨s.restore, exec_tdn s, by simp [checkedCode, hrst, hkind, Status.code]⟩
    · have hreserved : inp.ev.toNat % 8 = 6 ∨ inp.ev.toNat % 8 = 7 := by omega
      exact ⟨_, exec_reservedEvent s (evKind inp.ev), by simp [checkedCode, hrst, hreserved, Status.code]⟩

/-- Settles O53: `rst` first, then the kind, and within RX, ENC and WR the one check of each. -/
theorem statusByCheckOrder : Obligations.StatusByCheckOrder :=
  fun _ inp hwd => exec_decodeInput_endsWithCode hwd inp

/-! ## One cycle's strobes (R196) -/

theorem decodeInput_rxInput (data : List Byte) : decodeInput (rxInput data) = .rx data := rfl

/-- The cycle's events decode to the instructions of its strobes, in R196's order. -/
theorem Strobes.serialize_map_decodeInput (c : Strobes) : c.serialize.map decodeInput =
    if c.rst = true then [.rst] else if c.tdn = true then [.tdn]
    else (if c.tick = true then [.tick] else []) ++ c.rx.toList.map .rx ++
      c.wr.toList.map (fun p => decodeWr p.1 p.2) ++ c.enc.toList.map decodeEnc := by
  have hrst : decodeInput rstInput = .rst := rfl
  have htdn : decodeInput tdnInput = .tdn := rfl
  have htick : decodeInput tickInput = .tick := rfl
  unfold Strobes.serialize
  split_ifs
  · simp [hrst]
  · simp [htdn]
  · simp [htick, Function.comp_def, decodeInput_rxInput, decodeInput_wrWord, decodeInput_encWord]
  · simp [Function.comp_def, decodeInput_rxInput, decodeInput_wrWord, decodeInput_encWord]

/-- A TICK at count 1 and then a telemetry frame: the fire, then the re-arm (43_watchdog.md R176). -/
theorem reaches_fire_then_rearm {s : State} {data : List Byte} {rest : List Input} (hcfg : s.cfg.wf)
    (harmed : s.wd.state = .armed) (hone : s.wd.count.toNat = 1) (hlen : data.length = 20)
    (hq : s.inputs = tickInput :: rxInput data :: rest) :
    ∃ t, Reaches s [Out.fire, t.out] t ∧ t.wd.state = .armed ∧ t.wd.count.toNat = s.cfg.timeoutTicks ∧
      t.out.stale = false := by
  have hfire := step_tick_of_one hq harmed hone
  obtain ⟨t, hrx, hstate, hcount, hstale, -, -⟩ := step_rx_rearms (rest := rest)
    (s := ((s.withInputs (rxInput data :: rest)).withWd Watchdog.initial).withOut Out.fire) hcfg rfl hlen
  exact ⟨t, .cons hfire (.cons hrx (.refl t)), hstate, hcount, hstale⟩

/-- The bank after a WR event: the field that the select names takes its value, and 6 and 7 name none (42_state_write.md R161 to R167). -/
def DeviceState.afterWrite (d : DeviceState) (fsel : BitVec 3) (val : Byte) : DeviceState :=
  { d with
    fanSpeed := if fsel = 0 then val else d.fanSpeed
    heaterTemperature := if fsel = 1 then val else d.heaterTemperature
    airIntakeMode := if fsel = 2 then val else d.airIntakeMode
    heaterOn := if fsel = 3 then decide (val.toNat % 2 = 1) else d.heaterOn
    powerOn := if fsel = 4 then decide (val.toNat % 2 = 1) else d.powerOn
    soundOn := if fsel = 5 then decide (val.toNat % 2 = 1) else d.soundOn }

/-- A WR event leaves that bank, whether its select is written or refused. -/
theorem exec_decodeWr_afterWrite (s : State) (fsel : BitVec 3) (val : Byte) :
    ∃ t, exec (decodeWr fsel val) s = .next t ∧ t.dev = s.dev.afterWrite fsel val := by
  obtain ⟨k⟩ := fsel
  fin_cases k
  · exact ⟨_, exec_wrFan s val, rfl⟩
  · exact ⟨_, exec_wrHtemp s val, rfl⟩
  · exact ⟨_, exec_wrMode s val, rfl⟩
  · exact ⟨_, exec_wrHeater s val, congrArg s.dev.setHeaterOn (boolOperand_eq val)⟩
  · exact ⟨_, exec_wrPower s val, congrArg s.dev.setPowerOn (boolOperand_eq val)⟩
  · exact ⟨_, exec_wrSound s val, congrArg s.dev.setSoundOn (boolOperand_eq val)⟩
  · exact ⟨_, exec_wrReserved s 6 val, rfl⟩
  · exact ⟨_, exec_wrReserved s 7 val, rfl⟩

/-- The SetState frame of that bank shows the write. -/
theorem setStateFrame_afterWrite {c : Cfg} (h : c.wf) (d : DeviceState) (fsel : BitVec 3) (val : Byte) :
    showsHostWrite c ((d.afterWrite fsel val).setStateFrame c) d fsel val :=
  setStateFrame_showsSettable h _ _ _ _ _ _

/-- A WR event and then ENC_SET_STATE put out the frame of the bank after the write (70_reset_and_hazards.md R215). -/
theorem run_wr_encSetState {s : State} {fsel : BitVec 3} {val : Byte} {rest : List Input}
    (hq : s.inputs = eventInput (wrWord fsel val) :: eventInput (encWord opcSetState) :: rest) :
    ∃ t, Host.Core.run core 2 s = .next t ∧ t.inputs = rest ∧
      t.out.frameOut = some ((s.dev.afterWrite fsel val).setStateFrame s.cfg) := by
  obtain ⟨u, hwr, hdev⟩ := exec_decodeWr_afterWrite
    (s.withInputs (eventInput (encWord opcSetState) :: rest)) fsel val
  obtain ⟨hcfg, hinputs⟩ := exec_keeps_cfg_inputs hwr
  rw [State.withInputs_dev] at hdev
  rw [State.withInputs_cfg] at hcfg
  rw [← decodeInput_wrWord, ← step_cons hq] at hwr
  have henc : decodeInput (eventInput (encWord opcSetState)) = .encSetState := decodeInput_encWord opcSetState
  have hstep : step u = .next ((u.withInputs rest).emitFrame (u.dev.setStateFrame u.cfg)) := by
    rw [step_cons hinputs, henc]
    rfl
  rw [hdev, hcfg] at hstep
  exact ⟨_, (run_succ hwr).trans ((run_succ hstep).trans (run_zero _)), rfl, rfl⟩

/-- Settles O48: the cycle's events by their decode, and its two hazards as runs of two steps. -/
theorem strobesSerializeInOrder : Obligations.StrobesSerializeInOrder := by
  refine ⟨Strobes.serialize_map_decodeInput, fun s data hcfg hwd hq hlen => ?_, fun s fsel val hcfg hq => ?_⟩
  · have hcycle : (s.presentCycle ⟨false, false, true, some data, none, none⟩).inputs =
        [tickInput, rxInput data] := congrArg (· ++ [tickInput, rxInput data]) hq
    obtain ⟨t, hrun, hstate, hcount, hstale⟩ := reaches_fire_then_rearm
      (s := s.presentCycle ⟨false, false, true, some data, none, none⟩) hcfg
      (congrArg Watchdog.state hwd) (congrArg (fun w => w.count.toNat) hwd) hlen hcycle
    have houts := hrun.outputs_eq (n := 2) rfl
    exact ⟨t, hrun.run_eq rfl, hstate, hcount, by simp [houts, hstale]⟩
  · obtain ⟨t, hrun, hinputs, hframe⟩ := run_wr_encSetState (rest := [])
      (s := s.presentCycle ⟨false, false, false, none, some (fsel, val), some 0x02⟩) (fsel := fsel) (val := val)
      (congrArg (· ++ [eventInput (wrWord fsel val), eventInput (encWord opcSetState)]) hq)
    exact ⟨t, _, hrun, hinputs, hframe, setStateFrame_afterWrite hcfg s.dev fsel val⟩

end Sys2Proof.Machine
end

section
/-! PROOFS. Reset and hazards (70_reset_and_hazards.md): the register values at reset (R210, 10_state.md R24 to R40), and which bank a SetState frame shows when host writes and telemetry come before or after it (R215, R216). -/

namespace Sys2Proof.Machine

/-! ## Reset values -/

/-- Settles O41: the initial bank, watchdog and output record field by field; the default FAN_SPEED_MIN is 1. -/
theorem resetValues : Obligations.ResetValues :=
  ⟨fun c => ⟨State.resetUnder_dev c, State.resetUnder_wd c, State.resetUnder_out c, State.resetUnder_cfg c⟩,
    rfl, State.resetUnder_dev Config.cfg⟩

/-! ## Steps that run a presented WR, RX or ENC_SET_STATE -/

section Presented
variable {s : State} {rest : List Input}

theorem step_wr {fsel : BitVec 3} {val : Byte} (hq : s.inputs = eventInput (wrWord fsel val) :: rest) :
    ∃ t, step s = .next t ∧ t.dev = s.dev.afterWrite fsel val ∧ t.cfg = s.cfg ∧ t.inputs = rest := by
  obtain ⟨t, hexec, hdev⟩ := exec_decodeWr_afterWrite (s.withInputs rest) fsel val
  obtain ⟨hcfg, hinputs⟩ := exec_keeps_cfg_inputs hexec
  rw [← decodeInput_wrWord, ← step_cons hq] at hexec
  exact ⟨t, hexec, hdev, hcfg, hinputs⟩

theorem step_encSetState (hq : s.inputs = eventInput (encWord opcSetState) :: rest) :
    step s = .next ((s.withInputs rest).emitFrame (s.dev.setStateFrame s.cfg)) := by
  have hrow : decodeInput (eventInput (encWord opcSetState)) = .encSetState := decodeInput_encWord opcSetState
  rw [step_cons hq, hrow]
  exact exec_encSetState (s.withInputs rest)

/-- A SetState frame shows the six fields that the notification `data` carries in p(0), p(1) and p(2), its bytes 2 to 4 (41_telemetry_decode.md R124 to R126). -/
def showsTelemetry (c : Cfg) (f : Frame) (data : List Byte) : Prop :=
  showsSettable c f
    (BitVec.ofNat 8 ((data.getD 2 0).toNat % 16)) (data.getD 3 0) (BitVec.ofNat 8 ((data.getD 2 0).toNat / 16))
    ((data.getD 4 0).toNat.testBit 0) ((data.getD 4 0).toNat.testBit 1) ((data.getD 4 0).toNat.testBit 3)

/-- RX of 20 bytes leaves a bank whose SetState frame shows what they carry. -/
theorem step_rx_setStateFrame {data : List Byte} (hcfg : s.cfg.wf) (hlen : data.length = 20)
    (hq : s.inputs = rxInput data :: rest) :
    ∃ t, step s = .next t ∧ t.cfg = s.cfg ∧ t.inputs = rest ∧
      showsTelemetry s.cfg (t.dev.setStateFrame s.cfg) data := by
  obtain ⟨t, hexec, hfan, hmode, hheater, hpower, -, hsound, -, hhtemp, -⟩ :=
    telemetryCommitsPayload (s.withInputs rest) data hcfg hlen
  obtain ⟨hkept, hinputs⟩ := exec_keeps_cfg_inputs hexec
  refine ⟨t, (step_cons hq).trans hexec, hkept, hinputs, ?_⟩
  obtain ⟨bfan, bhtemp, bmode, bflags⟩ := setStateFrame_showsSettable hcfg t.dev.fanSpeed t.dev.heaterTemperature
    t.dev.airIntakeMode t.dev.heaterOn t.dev.powerOn t.dev.soundOn
  refine ⟨bfan.trans (eq_ofNat_of_toNat hfan), bhtemp.trans hhtemp, bmode.trans (eq_ofNat_of_toNat hmode),
    bflags.trans ?_⟩
  rw [hheater, hpower, hsound]

end Presented

/-! ## A telemetry frame between a host write and its SetState frame -/

/-- WR, RX of 20 bytes and ENC_SET_STATE put out a frame of the telemetry's fields: the whole bank was replaced (70_reset_and_hazards.md R216). -/
theorem run_wr_rx_encSetState {s : State} {fsel : BitVec 3} {val : Byte} {data : List Byte} {rest : List Input}
    (hcfg : s.cfg.wf) (hlen : data.length = 20)
    (hq : s.inputs = eventInput (wrWord fsel val) :: rxInput data :: eventInput (encWord opcSetState) :: rest) :
    ∃ t f, Host.Core.run core 3 s = .next t ∧ t.inputs = rest ∧ t.out.frameOut = some f ∧
      showsTelemetry s.cfg f data := by
  obtain ⟨u, hwr, -, hcfgu, hqu⟩ := step_wr hq
  rw [← hcfgu] at hcfg ⊢
  obtain ⟨v, hrx, hcfgv, hqv, hshows⟩ := step_rx_setStateFrame hcfg hlen hqu
  rw [← hcfgv] at hshows ⊢
  have hrun := (run_succ hwr).trans ((run_succ hrx).trans ((run_succ (step_encSetState hqv)).trans (run_zero _)))
  exact ⟨_, v.dev.setStateFrame v.cfg, hrun, rfl, rfl, hshows⟩

/-- Settles O32: ENC_SET_STATE shows the bank of its own step, which is the one after the write, the one before it, or the one that telemetry put in its place. -/
theorem hostWriteReachesLaterFrame : Obligations.HostWriteReachesLaterFrame := by
  intro s fsel val data rest hcfg hlen wr enc p
  have hwr : wr = eventInput (wrWord fsel val) :=
    congrArg eventInput (eq_ofNat_of_toNat (wrWord_toNat fsel val)).symm
  have henc : enc = eventInput (encWord opcSetState) := rfl
  rw [hwr, henc]
  refine ⟨?_, ?_, ?_⟩
  · obtain ⟨t, hrun, hinputs, hframe⟩ := run_wr_encSetState
      (s := s.withInputs (eventInput (wrWord fsel val) :: eventInput (encWord opcSetState) :: rest)) rfl
    exact ⟨t, _, hrun, hinputs, hframe, setStateFrame_afterWrite hcfg s.dev fsel val⟩
  · have hstep := step_encSetState
      (s := s.withInputs (eventInput (encWord opcSetState) :: eventInput (wrWord fsel val) :: rest)) rfl
    exact ⟨_, s.dev.setStateFrame s.cfg, hstep, rfl, setStateFrame_showsSettable hcfg _ _ _ _ _ _⟩
  · exact run_wr_rx_encSetState
      (s := s.withInputs (eventInput (wrWord fsel val) :: rxInput data :: eventInput (encWord opcSetState) :: rest))
      hcfg hlen rfl

end Sys2Proof.Machine
end

section
/-! PROOFS. The words that 95_test_vectors.md writes out, and when a step is not taken: with no event presented (30_encoding.md R70, log entry 2) and at a TICK in Armed with count 0 (10_state.md R41, log entry 8). -/

namespace Sys2Proof.Machine

/-! ## Words written out in the spec -/

/-- Settles O4: each word by its kind and operand fields, which the row's ignored bits do not touch (30_encoding.md R71). -/
theorem specWordsDecode : Obligations.SpecWordsDecode :=
  ⟨decodeInput_of_kind_enc (op := opcPair) rfl rfl rfl,
   decodeInput_of_kind_enc (op := opcPair) rfl rfl rfl,
   decodeInput_of_kind_enc (op := 0x04#8) rfl rfl rfl,
   decodeInput_of_kind_wr (fsel := 1#3) (val := 0x14#8) rfl rfl rfl rfl,
   decodeInput_of_kind_wr (fsel := 0#3) (val := 0x04#8) rfl rfl rfl rfl,
   decodeInput_of_kind_wr (fsel := 7#3) (val := 0xFF#8) rfl rfl rfl rfl,
   decodeInput_of_kind_tick rfl rfl,
   decodeInput_of_kind_reserved (kind := 6#3) rfl rfl (by decide),
   rfl⟩

/-! ## When a step is not taken -/

/-- A TICK stops in Armed with count 0 and completes everywhere else (log entry 8). -/
theorem State.tickWatchdog_stops_or_completes (s : State) :
    ((s.wd.state = .armed ∧ s.wd.count.toNat = 0) ∧ s.tickWatchdog = .fault .watchdogCountZero) ∨
    (¬ (s.wd.state = .armed ∧ s.wd.count.toNat = 0) ∧ ∃ t, s.tickWatchdog = .next t) := by
  obtain ⟨hidle, ht⟩ | ⟨harmed, hzero, ht⟩ | ⟨-, hone, ht⟩ | ⟨-, hgt, ht⟩ := s.tickWatchdog_cases
  · exact .inr ⟨by simp [hidle], _, ht⟩
  · exact .inl ⟨⟨harmed, congrArg BitVec.toNat hzero⟩, ht⟩
  · exact .inr ⟨by simp [hone], _, ht⟩
  · exact .inr ⟨fun ⟨_, hzero⟩ => by omega, _, ht⟩

/-- The one fault an instruction answers is TICK's: `noEvent` is raised by `step` alone. -/
theorem exec_fault {i : Instr} {s : State} {f : Fault} (h : exec i s = .fault f) :
    i = .tick ∧ f = .watchdogCountZero := by
  cases i with
  | tick =>
    rw [exec_tick] at h
    obtain ⟨-, ht⟩ | ⟨-, t, ht⟩ := s.tickWatchdog_stops_or_completes
    · cases ht.symm.trans h
      exact ⟨rfl, rfl⟩
    · cases ht.symm.trans h
  | _ => cases h

/-- Settles O6: an empty queue is `noEvent` by `step`, and a presented event's instruction never answers it. -/
theorem stepNeedsAnEvent : Obligations.StepNeedsAnEvent := by
  refine fun s => ⟨fun h => ?_, step_nil⟩
  cases hq : s.inputs with
  | nil => rfl
  | cons inp rest =>
    obtain ⟨-, hfault⟩ := exec_fault ((step_cons hq).symm.trans h)
    cases hfault

/-- Settles O36: in Armed with count 0 the TICK stops, and in every other state it answers a next state and so no fault. -/
theorem tickStopsOnlyOutsideRange : Obligations.TickStopsOnlyOutsideRange := by
  intro s
  rw [exec_tick]
  obtain ⟨hzero, ht⟩ | ⟨hother, t, ht⟩ := s.tickWatchdog_stops_or_completes
  · exact ⟨iff_of_true ht hzero, fun hother => absurd hzero hother⟩
  · exact ⟨iff_of_false (by simp [ht]) hother, fun _ => ⟨t, ht⟩⟩

end Sys2Proof.Machine
end
